-- ==== Sys2Proof/Word.lean ====
section
/-! DEFINITION. The two word types of the machine (00_scope.md R6: "A byte is 8 bits, a word is 16 bits"). -/

namespace Sys2Proof

/-- An 8-bit register, a byte of memory or of an instruction, a port number (R6). -/
abbrev Byte := BitVec 8

/-- A 16-bit register, pair or address (R6); its arithmetic is modulo 65,536 (R42). -/
abbrev Word := BitVec 16

end Sys2Proof
end

