-- ==== Sys2Proof/Config.lean ====
section
/-! DEFINITION. The parameters of the model (00_scope.md R5) and its one free value (20_memory.md R49). -/

namespace Sys2Proof

/-- RESET_REGS (R5, R24): the values at reset that the source does not give.
The defaults are the spec's ("all zero"); log entry 1. -/
structure ResetRegs where
  a : Byte := 0
  b : Byte := 0
  c : Byte := 0
  d : Byte := 0
  e : Byte := 0
  h : Byte := 0
  l : Byte := 0
  sp : Word := 0
  z : Bool := false
  s : Bool := false
  p : Bool := false
  cy : Bool := false
  ac : Bool := false
  deriving DecidableEq, Repr

/-- The parameters of R5 that a transition reads: the complement of IMPLEMENTED, RESET_REGS and PROG_END.
They are no state of the core (10_state.md R22). No transition changes the first two; a load sets the third (log entry 3). -/
structure Build where
  unimplemented : List Byte
  resetRegs : ResetRegs := {}
  progEnd : Nat
  deriving DecidableEq, Repr

/-- The parameters of R5 that a load names, "load(LOAD_BASE, IMAGE)" (70_reset_and_hazards.md R300). `progEnd = none` is
the default LOAD_BASE + length(IMAGE); `some n` is the host's override (20_memory.md R51). -/
structure Setup where
  loadBase : Word := 0
  image : List Byte := []
  progEnd : Option Nat := none
  deriving DecidableEq, Repr

/-- The number of addresses of the memory space (20_memory.md R40). -/
def memorySize : Nat := 65536

/-- PROG_END of a load (R5, R51): the host's override, else LOAD_BASE + length(IMAGE). -/
def Setup.programEnd (p : Setup) : Nat :=
  p.progEnd.getD (p.loadBase.toNat + p.image.length)

/-- FREE VALUE. What `read_port(n)` answers on the k-th port call when the host's next input byte is not given:
"`read_port` may return any byte and may return different bytes on successive calls" (20_memory.md R49). Log entry 8. -/
opaque Config.freePortByte : Nat → Byte → Byte

end Sys2Proof
end

