-- ==== Sys2Proof/Syntax.lean ====
section
/-! DEFINITION. Instr: one constructor per row of spec/opcode_table.json, that is one per opcode byte
(30_encoding.md R60: "exactly one entry per byte value 0-255"), with its operand bytes as the one argument
(R62: format F1 none, F2 `d8`, F3 `d16`/`a16`); the operand names of the spec; and, below Instr, the families:
the constructor that a family's pattern gives for given operand fields (R65 to R68). A duplicate encoding
(R69, R70) has a constructor of its own, named after its byte. -/

namespace Sys2Proof

/-- The 8-bit registers (10_state.md R10, R11; code 6 is no register). -/
inductive Reg where
  | b | c | d | e | h | l | a
  deriving DecidableEq, Repr

/-- The source of an accumulator operation: a register, or M, the byte at address HL (10_state.md R11). -/
inductive Src where
  | reg (r : Reg)
  | mem
  deriving DecidableEq, Repr

/-- The pairs of LXI, INX, DCX, DAD (10_state.md R13). -/
inductive Pair where
  | bc | de | hl | sp
  deriving DecidableEq, Repr

/-- The pairs of LDAX, STAX: "`rp` = 0 (BC) or 1 (DE) only" (42_data_transfer.md R130, R131). -/
inductive IndexPair where
  | bc | de
  deriving DecidableEq, Repr

/-- The pairs of PUSH rp, POP rp (46_stack_io_control.md R240, R242); code 3 is PSW, an instruction of its own. -/
inductive StackPair where
  | bc | de | hl
  deriving DecidableEq, Repr

/-- The eight branch conditions (40_condition_codes.md R90). -/
inductive Cond where
  | nz | z | nc | c | po | pe | p | m
  deriving DecidableEq, Repr

/-- The eight operations of the accumulator (30_encoding.md R62, field `ooo`). -/
inductive AluOp where
  | add | adc | sub | sbb | ana | xra | ora | cmp
  deriving DecidableEq, Repr

/-- The five condition codes, as names (10_state.md R16; the flags column of 30_encoding.md R75). -/
inductive FlagName where
  | z | s | p | cy | ac
  deriving DecidableEq, Repr

/-- The instructions: 256 constructors, one per opcode byte (30_encoding.md R60, R64). -/
inductive Instr where
  -- Data transfer (42_data_transfer.md)
  -- R120
  | movBB
  | movBC
  | movBD
  | movBE
  | movBH
  | movBL
  | movBA
  | movCB
  | movCC
  | movCD
  | movCE
  | movCH
  | movCL
  | movCA
  | movDB
  | movDC
  | movDD
  | movDE
  | movDH
  | movDL
  | movDA
  | movEB
  | movEC
  | movED
  | movEE
  | movEH
  | movEL
  | movEA
  | movHB
  | movHC
  | movHD
  | movHE
  | movHH
  | movHL
  | movHA
  | movLB
  | movLC
  | movLD
  | movLE
  | movLH
  | movLL
  | movLA
  | movAB
  | movAC
  | movAD
  | movAE
  | movAH
  | movAL
  | movAA
  -- R121
  | movBM
  | movCM
  | movDM
  | movEM
  | movHM
  | movLM
  | movAM
  -- R122
  | movMB
  | movMC
  | movMD
  | movME
  | movMH
  | movML
  | movMA
  -- R123
  | mviB (d8 : Byte)
  | mviC (d8 : Byte)
  | mviD (d8 : Byte)
  | mviE (d8 : Byte)
  | mviH (d8 : Byte)
  | mviL (d8 : Byte)
  | mviA (d8 : Byte)
  -- R124
  | mviM (d8 : Byte)
  -- R125
  | lxiB (d16 : Word)
  | lxiD (d16 : Word)
  | lxiH (d16 : Word)
  | lxiSP (d16 : Word)
  -- R126
  | lda (a16 : Word)
  -- R127
  | sta (a16 : Word)
  -- R128
  | lhld (a16 : Word)
  -- R129
  | shld (a16 : Word)
  -- R130
  | ldaxB
  | ldaxD
  -- R131
  | staxB
  | staxD
  -- R132
  | xchg
  -- Arithmetic (43_arithmetic.md)
  -- R140
  | addB
  | addC
  | addD
  | addE
  | addH
  | addL
  | addA
  -- R141
  | addM
  -- R142
  | adi (d8 : Byte)
  -- R143
  | adcB
  | adcC
  | adcD
  | adcE
  | adcH
  | adcL
  | adcA
  -- R144
  | adcM
  -- R145
  | aci (d8 : Byte)
  -- R146
  | subB
  | subC
  | subD
  | subE
  | subH
  | subL
  | subA
  -- R147
  | subM
  -- R148
  | sui (d8 : Byte)
  -- R149
  | sbbB
  | sbbC
  | sbbD
  | sbbE
  | sbbH
  | sbbL
  | sbbA
  -- R150
  | sbbM
  -- R151
  | sbi (d8 : Byte)
  -- R152
  | inrB
  | inrC
  | inrD
  | inrE
  | inrH
  | inrL
  | inrA
  -- R153
  | inrM
  -- R154
  | dcrB
  | dcrC
  | dcrD
  | dcrE
  | dcrH
  | dcrL
  | dcrA
  -- R155
  | dcrM
  -- R156
  | inxB
  | inxD
  | inxH
  | inxSP
  -- R157
  | dcxB
  | dcxD
  | dcxH
  | dcxSP
  -- R158
  | dadB
  | dadD
  | dadH
  | dadSP
  -- R159
  | daa
  -- Logical, compare, rotate, carry (44_logical.md)
  -- R170
  | anaB
  | anaC
  | anaD
  | anaE
  | anaH
  | anaL
  | anaA
  -- R171
  | anaM
  -- R172
  | ani (d8 : Byte)
  -- R173
  | xraB
  | xraC
  | xraD
  | xraE
  | xraH
  | xraL
  | xraA
  -- R174
  | xraM
  -- R175
  | xri (d8 : Byte)
  -- R176
  | oraB
  | oraC
  | oraD
  | oraE
  | oraH
  | oraL
  | oraA
  -- R177
  | oraM
  -- R178
  | ori (d8 : Byte)
  -- R179
  | cmpB
  | cmpC
  | cmpD
  | cmpE
  | cmpH
  | cmpL
  | cmpA
  -- R180
  | cmpM
  -- R181
  | cpi (d8 : Byte)
  -- R182
  | rlc
  -- R183
  | rrc
  -- R184
  | ral
  -- R185
  | rar
  -- R186
  | cma
  -- R187
  | cmc
  -- R188
  | stc
  -- Branch (45_branch.md)
  -- R200
  | jmp (a16 : Word)
  -- R201
  | jnz (a16 : Word)
  -- R202
  | jz (a16 : Word)
  -- R203
  | jnc (a16 : Word)
  -- R204
  | jc (a16 : Word)
  -- R205
  | jpo (a16 : Word)
  -- R206
  | jpe (a16 : Word)
  -- R207
  | jp (a16 : Word)
  -- R208
  | jm (a16 : Word)
  -- R209
  | call (a16 : Word)
  -- R210
  | cnz (a16 : Word)
  -- R211
  | cz (a16 : Word)
  -- R212
  | cnc (a16 : Word)
  -- R213
  | cc (a16 : Word)
  -- R214
  | cpo (a16 : Word)
  -- R215
  | cpe (a16 : Word)
  -- R216
  | cp (a16 : Word)
  -- R217
  | cm (a16 : Word)
  -- R218
  | ret
  -- R219
  | rnz
  -- R220
  | rz
  -- R221
  | rnc
  -- R222
  | rc
  -- R223
  | rpo
  -- R224
  | rpe
  -- R225
  | rp
  -- R226
  | rm
  -- R227
  | rst0
  | rst1
  | rst2
  | rst3
  | rst4
  | rst5
  | rst6
  | rst7
  -- R228
  | pchl
  -- R229
  | jmpCB (a16 : Word)
  | retD9
  | callDD (a16 : Word)
  | callED (a16 : Word)
  | callFD (a16 : Word)
  -- Stack, input/output, machine control (46_stack_io_control.md)
  -- R246
  | inPort (p : Byte)
  -- R247
  | outPort (p : Byte)
  -- R240
  | pushB
  | pushD
  | pushH
  -- R241
  | pushPSW
  -- R242
  | popB
  | popD
  | popH
  -- R243
  | popPSW
  -- R244
  | xthl
  -- R245
  | sphl
  -- R248
  | ei
  -- R249
  | di
  -- R250
  | hlt
  -- R251
  | nop
  | nop08
  | nop10
  | nop18
  | nop20
  | nop28
  | nop30
  | nop38
  deriving DecidableEq, Repr

/-! The families: what the fields of an opcode byte select. -/

/-- `MOV r1,r2`, pattern `01dddsss` (R66). -/
def Instr.movRR (dst src : Reg) : Instr :=
  match dst, src with
  | .b, .b => .movBB
  | .b, .c => .movBC
  | .b, .d => .movBD
  | .b, .e => .movBE
  | .b, .h => .movBH
  | .b, .l => .movBL
  | .b, .a => .movBA
  | .c, .b => .movCB
  | .c, .c => .movCC
  | .c, .d => .movCD
  | .c, .e => .movCE
  | .c, .h => .movCH
  | .c, .l => .movCL
  | .c, .a => .movCA
  | .d, .b => .movDB
  | .d, .c => .movDC
  | .d, .d => .movDD
  | .d, .e => .movDE
  | .d, .h => .movDH
  | .d, .l => .movDL
  | .d, .a => .movDA
  | .e, .b => .movEB
  | .e, .c => .movEC
  | .e, .d => .movED
  | .e, .e => .movEE
  | .e, .h => .movEH
  | .e, .l => .movEL
  | .e, .a => .movEA
  | .h, .b => .movHB
  | .h, .c => .movHC
  | .h, .d => .movHD
  | .h, .e => .movHE
  | .h, .h => .movHH
  | .h, .l => .movHL
  | .h, .a => .movHA
  | .l, .b => .movLB
  | .l, .c => .movLC
  | .l, .d => .movLD
  | .l, .e => .movLE
  | .l, .h => .movLH
  | .l, .l => .movLL
  | .l, .a => .movLA
  | .a, .b => .movAB
  | .a, .c => .movAC
  | .a, .d => .movAD
  | .a, .e => .movAE
  | .a, .h => .movAH
  | .a, .l => .movAL
  | .a, .a => .movAA

/-- `MOV r,M`, pattern `01ddd110` (R66). -/
def Instr.movRM (dst : Reg) : Instr :=
  match dst with
  | .b => .movBM
  | .c => .movCM
  | .d => .movDM
  | .e => .movEM
  | .h => .movHM
  | .l => .movLM
  | .a => .movAM

/-- `MOV M,r`, pattern `01110sss` (R66). -/
def Instr.movMR (src : Reg) : Instr :=
  match src with
  | .b => .movMB
  | .c => .movMC
  | .d => .movMD
  | .e => .movME
  | .h => .movMH
  | .l => .movML
  | .a => .movMA

/-- `MVI r,d8`, pattern `00ddd110` (R65). -/
def Instr.mviR (dst : Reg) (d8 : Byte) : Instr :=
  match dst with
  | .b => .mviB d8
  | .c => .mviC d8
  | .d => .mviD d8
  | .e => .mviE d8
  | .h => .mviH d8
  | .l => .mviL d8
  | .a => .mviA d8

/-- `LXI rp,d16`, pattern `00rp0001` (R65). -/
def Instr.lxi (rp : Pair) (d16 : Word) : Instr :=
  match rp with
  | .bc => .lxiB d16
  | .de => .lxiD d16
  | .hl => .lxiH d16
  | .sp => .lxiSP d16

/-- `LDAX rp`, pattern `000p1010` (R65). -/
def Instr.ldax (rp : IndexPair) : Instr :=
  match rp with
  | .bc => .ldaxB
  | .de => .ldaxD

/-- `STAX rp`, pattern `000p0010` (R65). -/
def Instr.stax (rp : IndexPair) : Instr :=
  match rp with
  | .bc => .staxB
  | .de => .staxD

/-- The accumulator operations with a register or M, pattern `10ooosss` (R67). -/
def Instr.alu (op : AluOp) (src : Src) : Instr :=
  match op, src with
  | .add, .reg .b => .addB
  | .add, .reg .c => .addC
  | .add, .reg .d => .addD
  | .add, .reg .e => .addE
  | .add, .reg .h => .addH
  | .add, .reg .l => .addL
  | .add, .mem => .addM
  | .add, .reg .a => .addA
  | .adc, .reg .b => .adcB
  | .adc, .reg .c => .adcC
  | .adc, .reg .d => .adcD
  | .adc, .reg .e => .adcE
  | .adc, .reg .h => .adcH
  | .adc, .reg .l => .adcL
  | .adc, .mem => .adcM
  | .adc, .reg .a => .adcA
  | .sub, .reg .b => .subB
  | .sub, .reg .c => .subC
  | .sub, .reg .d => .subD
  | .sub, .reg .e => .subE
  | .sub, .reg .h => .subH
  | .sub, .reg .l => .subL
  | .sub, .mem => .subM
  | .sub, .reg .a => .subA
  | .sbb, .reg .b => .sbbB
  | .sbb, .reg .c => .sbbC
  | .sbb, .reg .d => .sbbD
  | .sbb, .reg .e => .sbbE
  | .sbb, .reg .h => .sbbH
  | .sbb, .reg .l => .sbbL
  | .sbb, .mem => .sbbM
  | .sbb, .reg .a => .sbbA
  | .ana, .reg .b => .anaB
  | .ana, .reg .c => .anaC
  | .ana, .reg .d => .anaD
  | .ana, .reg .e => .anaE
  | .ana, .reg .h => .anaH
  | .ana, .reg .l => .anaL
  | .ana, .mem => .anaM
  | .ana, .reg .a => .anaA
  | .xra, .reg .b => .xraB
  | .xra, .reg .c => .xraC
  | .xra, .reg .d => .xraD
  | .xra, .reg .e => .xraE
  | .xra, .reg .h => .xraH
  | .xra, .reg .l => .xraL
  | .xra, .mem => .xraM
  | .xra, .reg .a => .xraA
  | .ora, .reg .b => .oraB
  | .ora, .reg .c => .oraC
  | .ora, .reg .d => .oraD
  | .ora, .reg .e => .oraE
  | .ora, .reg .h => .oraH
  | .ora, .reg .l => .oraL
  | .ora, .mem => .oraM
  | .ora, .reg .a => .oraA
  | .cmp, .reg .b => .cmpB
  | .cmp, .reg .c => .cmpC
  | .cmp, .reg .d => .cmpD
  | .cmp, .reg .e => .cmpE
  | .cmp, .reg .h => .cmpH
  | .cmp, .reg .l => .cmpL
  | .cmp, .mem => .cmpM
  | .cmp, .reg .a => .cmpA

/-- The accumulator operations with an immediate byte, pattern `11ooo110` (R68). -/
def Instr.aluImm (op : AluOp) (d8 : Byte) : Instr :=
  match op with
  | .add => .adi d8
  | .adc => .aci d8
  | .sub => .sui d8
  | .sbb => .sbi d8
  | .ana => .ani d8
  | .xra => .xri d8
  | .ora => .ori d8
  | .cmp => .cpi d8

/-- `INR`, pattern `00ddd100` (R65); M is `INR M`. -/
def Instr.inr (src : Src) : Instr :=
  match src with
  | .reg .b => .inrB
  | .reg .c => .inrC
  | .reg .d => .inrD
  | .reg .e => .inrE
  | .reg .h => .inrH
  | .reg .l => .inrL
  | .mem => .inrM
  | .reg .a => .inrA

/-- `DCR`, pattern `00ddd101` (R65); M is `DCR M`. -/
def Instr.dcr (src : Src) : Instr :=
  match src with
  | .reg .b => .dcrB
  | .reg .c => .dcrC
  | .reg .d => .dcrD
  | .reg .e => .dcrE
  | .reg .h => .dcrH
  | .reg .l => .dcrL
  | .mem => .dcrM
  | .reg .a => .dcrA

/-- `INX rp`, pattern `00rp0011` (R65). -/
def Instr.inx (rp : Pair) : Instr :=
  match rp with
  | .bc => .inxB
  | .de => .inxD
  | .hl => .inxH
  | .sp => .inxSP

/-- `DCX rp`, pattern `00rp1011` (R65). -/
def Instr.dcx (rp : Pair) : Instr :=
  match rp with
  | .bc => .dcxB
  | .de => .dcxD
  | .hl => .dcxH
  | .sp => .dcxSP

/-- `DAD rp`, pattern `00rp1001` (R65). -/
def Instr.dad (rp : Pair) : Instr :=
  match rp with
  | .bc => .dadB
  | .de => .dadD
  | .hl => .dadH
  | .sp => .dadSP

/-- The conditional jumps, pattern `11ccc010` (R68). -/
def Instr.jumpIf (cond : Cond) (a16 : Word) : Instr :=
  match cond with
  | .nz => .jnz a16
  | .z => .jz a16
  | .nc => .jnc a16
  | .c => .jc a16
  | .po => .jpo a16
  | .pe => .jpe a16
  | .p => .jp a16
  | .m => .jm a16

/-- The conditional calls, pattern `11ccc100` (R68). -/
def Instr.callIf (cond : Cond) (a16 : Word) : Instr :=
  match cond with
  | .nz => .cnz a16
  | .z => .cz a16
  | .nc => .cnc a16
  | .c => .cc a16
  | .po => .cpo a16
  | .pe => .cpe a16
  | .p => .cp a16
  | .m => .cm a16

/-- The conditional returns, pattern `11ccc000` (R68). -/
def Instr.retIf (cond : Cond) : Instr :=
  match cond with
  | .nz => .rnz
  | .z => .rz
  | .nc => .rnc
  | .c => .rc
  | .po => .rpo
  | .pe => .rpe
  | .p => .rp
  | .m => .rm

/-- `RST n`, pattern `11nnn111` (R68). -/
def Instr.rst (n : Fin 8) : Instr :=
  match n with
  | 0 => .rst0
  | 1 => .rst1
  | 2 => .rst2
  | 3 => .rst3
  | 4 => .rst4
  | 5 => .rst5
  | 6 => .rst6
  | 7 => .rst7

/-- `PUSH rp`, pattern `11rp0101` with rp = 0, 1, 2 (R68). -/
def Instr.push (rp : StackPair) : Instr :=
  match rp with
  | .bc => .pushB
  | .de => .pushD
  | .hl => .pushH

/-- `POP rp`, pattern `11rp0001` with rp = 0, 1, 2 (R68). -/
def Instr.pop (rp : StackPair) : Instr :=
  match rp with
  | .bc => .popB
  | .de => .popD
  | .hl => .popH

/-- `NOP` and its duplicates, pattern `00nnn000` (R65, R69). -/
def Instr.nops : List Instr :=
  [.nop, .nop08, .nop10, .nop18, .nop20, .nop28, .nop30, .nop38]

/-- `JMP a16` and its undocumented duplicate (R68, R70). -/
def Instr.jumps (a16 : Word) : List Instr := [.jmp a16, .jmpCB a16]

/-- `CALL a16` and its three undocumented duplicates (R68, R70). -/
def Instr.calls (a16 : Word) : List Instr := [.call a16, .callDD a16, .callED a16, .callFD a16]

/-- `RET` and its undocumented duplicate (R68, R70). -/
def Instr.rets : List Instr := [.ret, .retD9]

end Sys2Proof
end

