-- ==== Sys2Proof/WellFormed.lean ====
section
/-! DEFINITION. What is well formed.

An instruction needs no check: its operands carry their widths in their types, and "any value 0x00 to 0xFF is legal in
`b2` and `b3`. There is no reserved operand value and no operand check" (30_encoding.md R73); the operand codes that the
map gives to other instructions (register code 6, pair codes 2 and 3 of LDAX) are no values of Reg or IndexPair.
A load's setup has two checks: its image fits in memory, and its PROG_END is an address or 65,536. -/

namespace Sys2Proof

/-- Every instruction term is well formed (30_encoding.md R72, R73): the types of its operands say all there is to say. -/
abbrev Instr.wf (_ : Instr) : Bool := true

/-- "requires base + length(bytes) <= 65536" (20_memory.md R51). -/
abbrev Setup.imageFits (p : Setup) : Bool := decide (p.loadBase.toNat + p.image.length ≤ memorySize)

/-- PROG_END is an "integer 0..65,536" (00_scope.md R5). -/
abbrev Setup.progEndInRange (p : Setup) : Bool := decide (p.programEnd ≤ memorySize)

/-- A setup that can be loaded. -/
abbrev Setup.wf (p : Setup) : Bool := p.imageFits && p.progEndInRange

/-- PROG_END of a build is an "integer 0..65,536" (00_scope.md R5). -/
abbrev Build.wf (b : Build) : Bool := decide (b.progEnd ≤ memorySize)

end Sys2Proof
end

