-- ==== Sys2Proof/Decode.lean ====
section
/-! DEFINITION. The opcode table, the decoder over it, and the encoder.

The table is the grid of 30_encoding.md R64, one row function per high digit of the opcode; an entry is R60's opcode
definition: mnemonic, declared flags (R75), length and operation. The encoder below is written from the bit patterns
of R65 to R70, not from the table. -/

namespace Sys2Proof

/-! Bit fields and byte order. -/

/-- Bits 7:0 of a word (00_scope.md R6). -/
def lowByte (w : Word) : Byte := w.extractLsb' 0 8

/-- Bits 15:8 of a word (00_scope.md R6). -/
def highByte (w : Word) : Byte := w.extractLsb' 8 8

/-- `hi:lo`, that is `(hi << 8) | lo` (00_scope.md R6). -/
def wordOf (hi lo : Byte) : Word := hi ++ lo

/-! The opcode table. -/

/-- The format of an opcode (30_encoding.md R62), holding the instruction it makes from its operand bytes. -/
inductive Form where
  | f1 (i : Instr)
  | f2 (mk : Byte → Instr)
  | f3 (mk : Word → Instr)

/-- An opcode definition (30_encoding.md R60): "mnemonic (informational), instruction length in bytes (1-3), set of
flags it touches, and the operation it performs"; the form gives the length and names the operation. -/
structure OpcodeDef where
  mnemonic : String
  flags : List FlagName
  form : Form

/-- The instruction length in bytes (R60, R62). -/
def OpcodeDef.length (d : OpcodeDef) : Nat :=
  match d.form with
  | .f1 _ => 1
  | .f2 _ => 2
  | .f3 _ => 3

/-- ADD ... CPI, the logical group, DAA and POP PSW declare all five flags (R75). -/
def allFlags : List FlagName := [.z, .s, .p, .cy, .ac]

/-- INR and DCR declare Z, S, P, AC (R75). -/
def countFlags : List FlagName := [.z, .s, .p, .ac]

/-- DAD, the rotates, STC and CMC declare CY (R75). -/
def carryOnly : List FlagName := [.cy]

/-- Opcodes 0x00 to 0x0F (R64, row 0x). -/
def opcodeRow0 (lo : Nat) : OpcodeDef :=
  match lo with
  | 0 => ⟨"NOP", [], .f1 .nop⟩
  | 1 => ⟨"LXI B,d16", [], .f3 .lxiB⟩
  | 2 => ⟨"STAX B", [], .f1 .staxB⟩
  | 3 => ⟨"INX B", [], .f1 .inxB⟩
  | 4 => ⟨"INR B", countFlags, .f1 .inrB⟩
  | 5 => ⟨"DCR B", countFlags, .f1 .dcrB⟩
  | 6 => ⟨"MVI B,d8", [], .f2 .mviB⟩
  | 7 => ⟨"RLC", carryOnly, .f1 .rlc⟩
  | 8 => ⟨"NOP", [], .f1 .nop08⟩
  | 9 => ⟨"DAD B", carryOnly, .f1 .dadB⟩
  | 10 => ⟨"LDAX B", [], .f1 .ldaxB⟩
  | 11 => ⟨"DCX B", [], .f1 .dcxB⟩
  | 12 => ⟨"INR C", countFlags, .f1 .inrC⟩
  | 13 => ⟨"DCR C", countFlags, .f1 .dcrC⟩
  | 14 => ⟨"MVI C,d8", [], .f2 .mviC⟩
  | _ => ⟨"RRC", carryOnly, .f1 .rrc⟩

/-- Opcodes 0x10 to 0x1F (R64, row 1x). -/
def opcodeRow1 (lo : Nat) : OpcodeDef :=
  match lo with
  | 0 => ⟨"NOP", [], .f1 .nop10⟩
  | 1 => ⟨"LXI D,d16", [], .f3 .lxiD⟩
  | 2 => ⟨"STAX D", [], .f1 .staxD⟩
  | 3 => ⟨"INX D", [], .f1 .inxD⟩
  | 4 => ⟨"INR D", countFlags, .f1 .inrD⟩
  | 5 => ⟨"DCR D", countFlags, .f1 .dcrD⟩
  | 6 => ⟨"MVI D,d8", [], .f2 .mviD⟩
  | 7 => ⟨"RAL", carryOnly, .f1 .ral⟩
  | 8 => ⟨"NOP", [], .f1 .nop18⟩
  | 9 => ⟨"DAD D", carryOnly, .f1 .dadD⟩
  | 10 => ⟨"LDAX D", [], .f1 .ldaxD⟩
  | 11 => ⟨"DCX D", [], .f1 .dcxD⟩
  | 12 => ⟨"INR E", countFlags, .f1 .inrE⟩
  | 13 => ⟨"DCR E", countFlags, .f1 .dcrE⟩
  | 14 => ⟨"MVI E,d8", [], .f2 .mviE⟩
  | _ => ⟨"RAR", carryOnly, .f1 .rar⟩

/-- Opcodes 0x20 to 0x2F (R64, row 2x). -/
def opcodeRow2 (lo : Nat) : OpcodeDef :=
  match lo with
  | 0 => ⟨"NOP", [], .f1 .nop20⟩
  | 1 => ⟨"LXI H,d16", [], .f3 .lxiH⟩
  | 2 => ⟨"SHLD a16", [], .f3 .shld⟩
  | 3 => ⟨"INX H", [], .f1 .inxH⟩
  | 4 => ⟨"INR H", countFlags, .f1 .inrH⟩
  | 5 => ⟨"DCR H", countFlags, .f1 .dcrH⟩
  | 6 => ⟨"MVI H,d8", [], .f2 .mviH⟩
  | 7 => ⟨"DAA", allFlags, .f1 .daa⟩
  | 8 => ⟨"NOP", [], .f1 .nop28⟩
  | 9 => ⟨"DAD H", carryOnly, .f1 .dadH⟩
  | 10 => ⟨"LHLD a16", [], .f3 .lhld⟩
  | 11 => ⟨"DCX H", [], .f1 .dcxH⟩
  | 12 => ⟨"INR L", countFlags, .f1 .inrL⟩
  | 13 => ⟨"DCR L", countFlags, .f1 .dcrL⟩
  | 14 => ⟨"MVI L,d8", [], .f2 .mviL⟩
  | _ => ⟨"CMA", [], .f1 .cma⟩

/-- Opcodes 0x30 to 0x3F (R64, row 3x). -/
def opcodeRow3 (lo : Nat) : OpcodeDef :=
  match lo with
  | 0 => ⟨"NOP", [], .f1 .nop30⟩
  | 1 => ⟨"LXI SP,d16", [], .f3 .lxiSP⟩
  | 2 => ⟨"STA a16", [], .f3 .sta⟩
  | 3 => ⟨"INX SP", [], .f1 .inxSP⟩
  | 4 => ⟨"INR M", countFlags, .f1 .inrM⟩
  | 5 => ⟨"DCR M", countFlags, .f1 .dcrM⟩
  | 6 => ⟨"MVI M,d8", [], .f2 .mviM⟩
  | 7 => ⟨"STC", carryOnly, .f1 .stc⟩
  | 8 => ⟨"NOP", [], .f1 .nop38⟩
  | 9 => ⟨"DAD SP", carryOnly, .f1 .dadSP⟩
  | 10 => ⟨"LDA a16", [], .f3 .lda⟩
  | 11 => ⟨"DCX SP", [], .f1 .dcxSP⟩
  | 12 => ⟨"INR A", countFlags, .f1 .inrA⟩
  | 13 => ⟨"DCR A", countFlags, .f1 .dcrA⟩
  | 14 => ⟨"MVI A,d8", [], .f2 .mviA⟩
  | _ => ⟨"CMC", carryOnly, .f1 .cmc⟩

/-- Opcodes 0x40 to 0x4F (R64, row 4x). -/
def opcodeRow4 (lo : Nat) : OpcodeDef :=
  match lo with
  | 0 => ⟨"MOV B,B", [], .f1 .movBB⟩
  | 1 => ⟨"MOV B,C", [], .f1 .movBC⟩
  | 2 => ⟨"MOV B,D", [], .f1 .movBD⟩
  | 3 => ⟨"MOV B,E", [], .f1 .movBE⟩
  | 4 => ⟨"MOV B,H", [], .f1 .movBH⟩
  | 5 => ⟨"MOV B,L", [], .f1 .movBL⟩
  | 6 => ⟨"MOV B,M", [], .f1 .movBM⟩
  | 7 => ⟨"MOV B,A", [], .f1 .movBA⟩
  | 8 => ⟨"MOV C,B", [], .f1 .movCB⟩
  | 9 => ⟨"MOV C,C", [], .f1 .movCC⟩
  | 10 => ⟨"MOV C,D", [], .f1 .movCD⟩
  | 11 => ⟨"MOV C,E", [], .f1 .movCE⟩
  | 12 => ⟨"MOV C,H", [], .f1 .movCH⟩
  | 13 => ⟨"MOV C,L", [], .f1 .movCL⟩
  | 14 => ⟨"MOV C,M", [], .f1 .movCM⟩
  | _ => ⟨"MOV C,A", [], .f1 .movCA⟩

/-- Opcodes 0x50 to 0x5F (R64, row 5x). -/
def opcodeRow5 (lo : Nat) : OpcodeDef :=
  match lo with
  | 0 => ⟨"MOV D,B", [], .f1 .movDB⟩
  | 1 => ⟨"MOV D,C", [], .f1 .movDC⟩
  | 2 => ⟨"MOV D,D", [], .f1 .movDD⟩
  | 3 => ⟨"MOV D,E", [], .f1 .movDE⟩
  | 4 => ⟨"MOV D,H", [], .f1 .movDH⟩
  | 5 => ⟨"MOV D,L", [], .f1 .movDL⟩
  | 6 => ⟨"MOV D,M", [], .f1 .movDM⟩
  | 7 => ⟨"MOV D,A", [], .f1 .movDA⟩
  | 8 => ⟨"MOV E,B", [], .f1 .movEB⟩
  | 9 => ⟨"MOV E,C", [], .f1 .movEC⟩
  | 10 => ⟨"MOV E,D", [], .f1 .movED⟩
  | 11 => ⟨"MOV E,E", [], .f1 .movEE⟩
  | 12 => ⟨"MOV E,H", [], .f1 .movEH⟩
  | 13 => ⟨"MOV E,L", [], .f1 .movEL⟩
  | 14 => ⟨"MOV E,M", [], .f1 .movEM⟩
  | _ => ⟨"MOV E,A", [], .f1 .movEA⟩

/-- Opcodes 0x60 to 0x6F (R64, row 6x). -/
def opcodeRow6 (lo : Nat) : OpcodeDef :=
  match lo with
  | 0 => ⟨"MOV H,B", [], .f1 .movHB⟩
  | 1 => ⟨"MOV H,C", [], .f1 .movHC⟩
  | 2 => ⟨"MOV H,D", [], .f1 .movHD⟩
  | 3 => ⟨"MOV H,E", [], .f1 .movHE⟩
  | 4 => ⟨"MOV H,H", [], .f1 .movHH⟩
  | 5 => ⟨"MOV H,L", [], .f1 .movHL⟩
  | 6 => ⟨"MOV H,M", [], .f1 .movHM⟩
  | 7 => ⟨"MOV H,A", [], .f1 .movHA⟩
  | 8 => ⟨"MOV L,B", [], .f1 .movLB⟩
  | 9 => ⟨"MOV L,C", [], .f1 .movLC⟩
  | 10 => ⟨"MOV L,D", [], .f1 .movLD⟩
  | 11 => ⟨"MOV L,E", [], .f1 .movLE⟩
  | 12 => ⟨"MOV L,H", [], .f1 .movLH⟩
  | 13 => ⟨"MOV L,L", [], .f1 .movLL⟩
  | 14 => ⟨"MOV L,M", [], .f1 .movLM⟩
  | _ => ⟨"MOV L,A", [], .f1 .movLA⟩

/-- Opcodes 0x70 to 0x7F (R64, row 7x). -/
def opcodeRow7 (lo : Nat) : OpcodeDef :=
  match lo with
  | 0 => ⟨"MOV M,B", [], .f1 .movMB⟩
  | 1 => ⟨"MOV M,C", [], .f1 .movMC⟩
  | 2 => ⟨"MOV M,D", [], .f1 .movMD⟩
  | 3 => ⟨"MOV M,E", [], .f1 .movME⟩
  | 4 => ⟨"MOV M,H", [], .f1 .movMH⟩
  | 5 => ⟨"MOV M,L", [], .f1 .movML⟩
  | 6 => ⟨"HLT", [], .f1 .hlt⟩
  | 7 => ⟨"MOV M,A", [], .f1 .movMA⟩
  | 8 => ⟨"MOV A,B", [], .f1 .movAB⟩
  | 9 => ⟨"MOV A,C", [], .f1 .movAC⟩
  | 10 => ⟨"MOV A,D", [], .f1 .movAD⟩
  | 11 => ⟨"MOV A,E", [], .f1 .movAE⟩
  | 12 => ⟨"MOV A,H", [], .f1 .movAH⟩
  | 13 => ⟨"MOV A,L", [], .f1 .movAL⟩
  | 14 => ⟨"MOV A,M", [], .f1 .movAM⟩
  | _ => ⟨"MOV A,A", [], .f1 .movAA⟩

/-- Opcodes 0x80 to 0x8F (R64, row 8x). -/
def opcodeRow8 (lo : Nat) : OpcodeDef :=
  match lo with
  | 0 => ⟨"ADD B", allFlags, .f1 .addB⟩
  | 1 => ⟨"ADD C", allFlags, .f1 .addC⟩
  | 2 => ⟨"ADD D", allFlags, .f1 .addD⟩
  | 3 => ⟨"ADD E", allFlags, .f1 .addE⟩
  | 4 => ⟨"ADD H", allFlags, .f1 .addH⟩
  | 5 => ⟨"ADD L", allFlags, .f1 .addL⟩
  | 6 => ⟨"ADD M", allFlags, .f1 .addM⟩
  | 7 => ⟨"ADD A", allFlags, .f1 .addA⟩
  | 8 => ⟨"ADC B", allFlags, .f1 .adcB⟩
  | 9 => ⟨"ADC C", allFlags, .f1 .adcC⟩
  | 10 => ⟨"ADC D", allFlags, .f1 .adcD⟩
  | 11 => ⟨"ADC E", allFlags, .f1 .adcE⟩
  | 12 => ⟨"ADC H", allFlags, .f1 .adcH⟩
  | 13 => ⟨"ADC L", allFlags, .f1 .adcL⟩
  | 14 => ⟨"ADC M", allFlags, .f1 .adcM⟩
  | _ => ⟨"ADC A", allFlags, .f1 .adcA⟩

/-- Opcodes 0x90 to 0x9F (R64, row 9x). -/
def opcodeRow9 (lo : Nat) : OpcodeDef :=
  match lo with
  | 0 => ⟨"SUB B", allFlags, .f1 .subB⟩
  | 1 => ⟨"SUB C", allFlags, .f1 .subC⟩
  | 2 => ⟨"SUB D", allFlags, .f1 .subD⟩
  | 3 => ⟨"SUB E", allFlags, .f1 .subE⟩
  | 4 => ⟨"SUB H", allFlags, .f1 .subH⟩
  | 5 => ⟨"SUB L", allFlags, .f1 .subL⟩
  | 6 => ⟨"SUB M", allFlags, .f1 .subM⟩
  | 7 => ⟨"SUB A", allFlags, .f1 .subA⟩
  | 8 => ⟨"SBB B", allFlags, .f1 .sbbB⟩
  | 9 => ⟨"SBB C", allFlags, .f1 .sbbC⟩
  | 10 => ⟨"SBB D", allFlags, .f1 .sbbD⟩
  | 11 => ⟨"SBB E", allFlags, .f1 .sbbE⟩
  | 12 => ⟨"SBB H", allFlags, .f1 .sbbH⟩
  | 13 => ⟨"SBB L", allFlags, .f1 .sbbL⟩
  | 14 => ⟨"SBB M", allFlags, .f1 .sbbM⟩
  | _ => ⟨"SBB A", allFlags, .f1 .sbbA⟩

/-- Opcodes 0xA0 to 0xAF (R64, row Ax). -/
def opcodeRowA (lo : Nat) : OpcodeDef :=
  match lo with
  | 0 => ⟨"ANA B", allFlags, .f1 .anaB⟩
  | 1 => ⟨"ANA C", allFlags, .f1 .anaC⟩
  | 2 => ⟨"ANA D", allFlags, .f1 .anaD⟩
  | 3 => ⟨"ANA E", allFlags, .f1 .anaE⟩
  | 4 => ⟨"ANA H", allFlags, .f1 .anaH⟩
  | 5 => ⟨"ANA L", allFlags, .f1 .anaL⟩
  | 6 => ⟨"ANA M", allFlags, .f1 .anaM⟩
  | 7 => ⟨"ANA A", allFlags, .f1 .anaA⟩
  | 8 => ⟨"XRA B", allFlags, .f1 .xraB⟩
  | 9 => ⟨"XRA C", allFlags, .f1 .xraC⟩
  | 10 => ⟨"XRA D", allFlags, .f1 .xraD⟩
  | 11 => ⟨"XRA E", allFlags, .f1 .xraE⟩
  | 12 => ⟨"XRA H", allFlags, .f1 .xraH⟩
  | 13 => ⟨"XRA L", allFlags, .f1 .xraL⟩
  | 14 => ⟨"XRA M", allFlags, .f1 .xraM⟩
  | _ => ⟨"XRA A", allFlags, .f1 .xraA⟩

/-- Opcodes 0xB0 to 0xBF (R64, row Bx). -/
def opcodeRowB (lo : Nat) : OpcodeDef :=
  match lo with
  | 0 => ⟨"ORA B", allFlags, .f1 .oraB⟩
  | 1 => ⟨"ORA C", allFlags, .f1 .oraC⟩
  | 2 => ⟨"ORA D", allFlags, .f1 .oraD⟩
  | 3 => ⟨"ORA E", allFlags, .f1 .oraE⟩
  | 4 => ⟨"ORA H", allFlags, .f1 .oraH⟩
  | 5 => ⟨"ORA L", allFlags, .f1 .oraL⟩
  | 6 => ⟨"ORA M", allFlags, .f1 .oraM⟩
  | 7 => ⟨"ORA A", allFlags, .f1 .oraA⟩
  | 8 => ⟨"CMP B", allFlags, .f1 .cmpB⟩
  | 9 => ⟨"CMP C", allFlags, .f1 .cmpC⟩
  | 10 => ⟨"CMP D", allFlags, .f1 .cmpD⟩
  | 11 => ⟨"CMP E", allFlags, .f1 .cmpE⟩
  | 12 => ⟨"CMP H", allFlags, .f1 .cmpH⟩
  | 13 => ⟨"CMP L", allFlags, .f1 .cmpL⟩
  | 14 => ⟨"CMP M", allFlags, .f1 .cmpM⟩
  | _ => ⟨"CMP A", allFlags, .f1 .cmpA⟩

/-- Opcodes 0xC0 to 0xCF (R64, row Cx). -/
def opcodeRowC (lo : Nat) : OpcodeDef :=
  match lo with
  | 0 => ⟨"RNZ", [], .f1 .rnz⟩
  | 1 => ⟨"POP B", [], .f1 .popB⟩
  | 2 => ⟨"JNZ a16", [], .f3 .jnz⟩
  | 3 => ⟨"JMP a16", [], .f3 .jmp⟩
  | 4 => ⟨"CNZ a16", [], .f3 .cnz⟩
  | 5 => ⟨"PUSH B", [], .f1 .pushB⟩
  | 6 => ⟨"ADI d8", allFlags, .f2 .adi⟩
  | 7 => ⟨"RST 0", [], .f1 .rst0⟩
  | 8 => ⟨"RZ", [], .f1 .rz⟩
  | 9 => ⟨"RET", [], .f1 .ret⟩
  | 10 => ⟨"JZ a16", [], .f3 .jz⟩
  | 11 => ⟨"JMP a16", [], .f3 .jmpCB⟩
  | 12 => ⟨"CZ a16", [], .f3 .cz⟩
  | 13 => ⟨"CALL a16", [], .f3 .call⟩
  | 14 => ⟨"ACI d8", allFlags, .f2 .aci⟩
  | _ => ⟨"RST 1", [], .f1 .rst1⟩

/-- Opcodes 0xD0 to 0xDF (R64, row Dx). -/
def opcodeRowD (lo : Nat) : OpcodeDef :=
  match lo with
  | 0 => ⟨"RNC", [], .f1 .rnc⟩
  | 1 => ⟨"POP D", [], .f1 .popD⟩
  | 2 => ⟨"JNC a16", [], .f3 .jnc⟩
  | 3 => ⟨"OUT d8", [], .f2 .outPort⟩
  | 4 => ⟨"CNC a16", [], .f3 .cnc⟩
  | 5 => ⟨"PUSH D", [], .f1 .pushD⟩
  | 6 => ⟨"SUI d8", allFlags, .f2 .sui⟩
  | 7 => ⟨"RST 2", [], .f1 .rst2⟩
  | 8 => ⟨"RC", [], .f1 .rc⟩
  | 9 => ⟨"RET", [], .f1 .retD9⟩
  | 10 => ⟨"JC a16", [], .f3 .jc⟩
  | 11 => ⟨"IN d8", [], .f2 .inPort⟩
  | 12 => ⟨"CC a16", [], .f3 .cc⟩
  | 13 => ⟨"CALL a16", [], .f3 .callDD⟩
  | 14 => ⟨"SBI d8", allFlags, .f2 .sbi⟩
  | _ => ⟨"RST 3", [], .f1 .rst3⟩

/-- Opcodes 0xE0 to 0xEF (R64, row Ex). -/
def opcodeRowE (lo : Nat) : OpcodeDef :=
  match lo with
  | 0 => ⟨"RPO", [], .f1 .rpo⟩
  | 1 => ⟨"POP H", [], .f1 .popH⟩
  | 2 => ⟨"JPO a16", [], .f3 .jpo⟩
  | 3 => ⟨"XTHL", [], .f1 .xthl⟩
  | 4 => ⟨"CPO a16", [], .f3 .cpo⟩
  | 5 => ⟨"PUSH H", [], .f1 .pushH⟩
  | 6 => ⟨"ANI d8", allFlags, .f2 .ani⟩
  | 7 => ⟨"RST 4", [], .f1 .rst4⟩
  | 8 => ⟨"RPE", [], .f1 .rpe⟩
  | 9 => ⟨"PCHL", [], .f1 .pchl⟩
  | 10 => ⟨"JPE a16", [], .f3 .jpe⟩
  | 11 => ⟨"XCHG", [], .f1 .xchg⟩
  | 12 => ⟨"CPE a16", [], .f3 .cpe⟩
  | 13 => ⟨"CALL a16", [], .f3 .callED⟩
  | 14 => ⟨"XRI d8", allFlags, .f2 .xri⟩
  | _ => ⟨"RST 5", [], .f1 .rst5⟩

/-- Opcodes 0xF0 to 0xFF (R64, row Fx). -/
def opcodeRowF (lo : Nat) : OpcodeDef :=
  match lo with
  | 0 => ⟨"RP", [], .f1 .rp⟩
  | 1 => ⟨"POP PSW", allFlags, .f1 .popPSW⟩
  | 2 => ⟨"JP a16", [], .f3 .jp⟩
  | 3 => ⟨"DI", [], .f1 .di⟩
  | 4 => ⟨"CP a16", [], .f3 .cp⟩
  | 5 => ⟨"PUSH PSW", [], .f1 .pushPSW⟩
  | 6 => ⟨"ORI d8", allFlags, .f2 .ori⟩
  | 7 => ⟨"RST 6", [], .f1 .rst6⟩
  | 8 => ⟨"RM", [], .f1 .rm⟩
  | 9 => ⟨"SPHL", [], .f1 .sphl⟩
  | 10 => ⟨"JM a16", [], .f3 .jm⟩
  | 11 => ⟨"EI", [], .f1 .ei⟩
  | 12 => ⟨"CM a16", [], .f3 .cm⟩
  | 13 => ⟨"CALL a16", [], .f3 .callFD⟩
  | 14 => ⟨"CPI d8", allFlags, .f2 .cpi⟩
  | _ => ⟨"RST 7", [], .f1 .rst7⟩

/-- The decoder's table lookup, "total function, never fails" (30_encoding.md R60); the last row and the last column
take 15, the one value of a hexadecimal digit the others leave. -/
def lookup (op : Byte) : OpcodeDef :=
  match op.toNat / 16 with
  | 0 => opcodeRow0 (op.toNat % 16)
  | 1 => opcodeRow1 (op.toNat % 16)
  | 2 => opcodeRow2 (op.toNat % 16)
  | 3 => opcodeRow3 (op.toNat % 16)
  | 4 => opcodeRow4 (op.toNat % 16)
  | 5 => opcodeRow5 (op.toNat % 16)
  | 6 => opcodeRow6 (op.toNat % 16)
  | 7 => opcodeRow7 (op.toNat % 16)
  | 8 => opcodeRow8 (op.toNat % 16)
  | 9 => opcodeRow9 (op.toNat % 16)
  | 10 => opcodeRowA (op.toNat % 16)
  | 11 => opcodeRowB (op.toNat % 16)
  | 12 => opcodeRowC (op.toNat % 16)
  | 13 => opcodeRowD (op.toNat % 16)
  | 14 => opcodeRowE (op.toNat % 16)
  | _ => opcodeRowF (op.toNat % 16)

/-- The instruction made of an opcode and the bytes after it; a form takes only the operand bytes its length has
(41_sequencer.md R104; 30_encoding.md R63: `d16 = a16 = (b3 << 8) | b2`). -/
def assemble (op b2 b3 : Byte) : Instr :=
  match (lookup op).form with
  | .f1 i => i
  | .f2 mk => mk b2
  | .f3 mk => mk (wordOf b3 b2)

/-! The decoder over a list of bytes. -/

/-- Why a list of bytes holds no instruction. Every opcode byte has a definition (R60), so only bytes can be missing. -/
inductive DecodeError where
  /-- the list is empty -/
  | noOpcode
  /-- the opcode's operand bytes are not all there -/
  | missingOperands (opcode : Byte)
  deriving DecidableEq, Repr

/-- The instruction at the head of a list of bytes, and the bytes after it (30_encoding.md R61 to R63). -/
def decode (bytes : List Byte) : Except DecodeError (Instr × List Byte) :=
  match bytes with
  | [] => .error .noOpcode
  | op :: rest =>
    match (lookup op).form with
    | .f1 i => .ok (i, rest)
    | .f2 mk =>
      match rest with
      | b2 :: rest => .ok (mk b2, rest)
      | [] => .error (.missingOperands op)
    | .f3 mk =>
      match rest with
      | b2 :: b3 :: rest => .ok (mk (wordOf b3 b2), rest)
      | [] | [_] => .error (.missingOperands op)

/-! The encoder, from the bit patterns of R65 to R70. -/

/-- An opcode byte from its fields, bits 7:6, 5:3 and 2:0 (30_encoding.md R62). -/
def opcodeBits (qq : BitVec 2) (y z : BitVec 3) : Byte := qq ++ y ++ z

/-- The 3-bit register codes (10_state.md R11). -/
def Reg.code : Reg → BitVec 3
  | .b => 0
  | .c => 1
  | .d => 2
  | .e => 3
  | .h => 4
  | .l => 5
  | .a => 7

/-- The 3-bit code of a source; code 6 is M (10_state.md R11). -/
def Src.code : Src → BitVec 3
  | .reg r => r.code
  | .mem => 6

/-- The 2-bit pair codes of LXI, INX, DCX, DAD (10_state.md R13). -/
def Pair.code : Pair → BitVec 2
  | .bc => 0
  | .de => 1
  | .hl => 2
  | .sp => 3

/-- The 2-bit pair codes of LDAX, STAX (10_state.md R13). -/
def IndexPair.code : IndexPair → BitVec 2
  | .bc => 0
  | .de => 1

/-- The 2-bit pair codes of PUSH, POP (10_state.md R13). -/
def StackPair.code : StackPair → BitVec 2
  | .bc => 0
  | .de => 1
  | .hl => 2

/-- The 3-bit condition codes (40_condition_codes.md R90). -/
def Cond.code : Cond → BitVec 3
  | .nz => 0
  | .z => 1
  | .nc => 2
  | .c => 3
  | .po => 4
  | .pe => 5
  | .p => 6
  | .m => 7

/-- The 3-bit operation codes (30_encoding.md R62, field `ooo`). -/
def AluOp.code : AluOp → BitVec 3
  | .add => 0
  | .adc => 1
  | .sub => 2
  | .sbb => 3
  | .ana => 4
  | .xra => 5
  | .ora => 6
  | .cmp => 7

/-- An opcode byte whose bits 5:4 are a pair code (30_encoding.md R62, field `rp`). -/
def opcodePair (qq rp : BitVec 2) (low : BitVec 4) : Byte := qq ++ rp ++ low

/-- The bytes of an instruction, opcode first, a word's low byte before its high byte (30_encoding.md R62, R63). -/
def encode (i : Instr) : List Byte :=
  match i with
  | .movBB => [opcodeBits 0b01 0b000 0b000]
  | .movBC => [opcodeBits 0b01 0b000 0b001]
  | .movBD => [opcodeBits 0b01 0b000 0b010]
  | .movBE => [opcodeBits 0b01 0b000 0b011]
  | .movBH => [opcodeBits 0b01 0b000 0b100]
  | .movBL => [opcodeBits 0b01 0b000 0b101]
  | .movBA => [opcodeBits 0b01 0b000 0b111]
  | .movCB => [opcodeBits 0b01 0b001 0b000]
  | .movCC => [opcodeBits 0b01 0b001 0b001]
  | .movCD => [opcodeBits 0b01 0b001 0b010]
  | .movCE => [opcodeBits 0b01 0b001 0b011]
  | .movCH => [opcodeBits 0b01 0b001 0b100]
  | .movCL => [opcodeBits 0b01 0b001 0b101]
  | .movCA => [opcodeBits 0b01 0b001 0b111]
  | .movDB => [opcodeBits 0b01 0b010 0b000]
  | .movDC => [opcodeBits 0b01 0b010 0b001]
  | .movDD => [opcodeBits 0b01 0b010 0b010]
  | .movDE => [opcodeBits 0b01 0b010 0b011]
  | .movDH => [opcodeBits 0b01 0b010 0b100]
  | .movDL => [opcodeBits 0b01 0b010 0b101]
  | .movDA => [opcodeBits 0b01 0b010 0b111]
  | .movEB => [opcodeBits 0b01 0b011 0b000]
  | .movEC => [opcodeBits 0b01 0b011 0b001]
  | .movED => [opcodeBits 0b01 0b011 0b010]
  | .movEE => [opcodeBits 0b01 0b011 0b011]
  | .movEH => [opcodeBits 0b01 0b011 0b100]
  | .movEL => [opcodeBits 0b01 0b011 0b101]
  | .movEA => [opcodeBits 0b01 0b011 0b111]
  | .movHB => [opcodeBits 0b01 0b100 0b000]
  | .movHC => [opcodeBits 0b01 0b100 0b001]
  | .movHD => [opcodeBits 0b01 0b100 0b010]
  | .movHE => [opcodeBits 0b01 0b100 0b011]
  | .movHH => [opcodeBits 0b01 0b100 0b100]
  | .movHL => [opcodeBits 0b01 0b100 0b101]
  | .movHA => [opcodeBits 0b01 0b100 0b111]
  | .movLB => [opcodeBits 0b01 0b101 0b000]
  | .movLC => [opcodeBits 0b01 0b101 0b001]
  | .movLD => [opcodeBits 0b01 0b101 0b010]
  | .movLE => [opcodeBits 0b01 0b101 0b011]
  | .movLH => [opcodeBits 0b01 0b101 0b100]
  | .movLL => [opcodeBits 0b01 0b101 0b101]
  | .movLA => [opcodeBits 0b01 0b101 0b111]
  | .movAB => [opcodeBits 0b01 0b111 0b000]
  | .movAC => [opcodeBits 0b01 0b111 0b001]
  | .movAD => [opcodeBits 0b01 0b111 0b010]
  | .movAE => [opcodeBits 0b01 0b111 0b011]
  | .movAH => [opcodeBits 0b01 0b111 0b100]
  | .movAL => [opcodeBits 0b01 0b111 0b101]
  | .movAA => [opcodeBits 0b01 0b111 0b111]
  | .movBM => [opcodeBits 0b01 0b000 0b110]
  | .movCM => [opcodeBits 0b01 0b001 0b110]
  | .movDM => [opcodeBits 0b01 0b010 0b110]
  | .movEM => [opcodeBits 0b01 0b011 0b110]
  | .movHM => [opcodeBits 0b01 0b100 0b110]
  | .movLM => [opcodeBits 0b01 0b101 0b110]
  | .movAM => [opcodeBits 0b01 0b111 0b110]
  | .movMB => [opcodeBits 0b01 0b110 0b000]
  | .movMC => [opcodeBits 0b01 0b110 0b001]
  | .movMD => [opcodeBits 0b01 0b110 0b010]
  | .movME => [opcodeBits 0b01 0b110 0b011]
  | .movMH => [opcodeBits 0b01 0b110 0b100]
  | .movML => [opcodeBits 0b01 0b110 0b101]
  | .movMA => [opcodeBits 0b01 0b110 0b111]
  | .mviB d8 => [opcodeBits 0b00 0b000 0b110, d8]
  | .mviC d8 => [opcodeBits 0b00 0b001 0b110, d8]
  | .mviD d8 => [opcodeBits 0b00 0b010 0b110, d8]
  | .mviE d8 => [opcodeBits 0b00 0b011 0b110, d8]
  | .mviH d8 => [opcodeBits 0b00 0b100 0b110, d8]
  | .mviL d8 => [opcodeBits 0b00 0b101 0b110, d8]
  | .mviA d8 => [opcodeBits 0b00 0b111 0b110, d8]
  | .mviM d8 => [opcodeBits 0b00 0b110 0b110, d8]
  | .lxiB a16 => [opcodeBits 0b00 0b000 0b001, lowByte a16, highByte a16]
  | .lxiD a16 => [opcodeBits 0b00 0b010 0b001, lowByte a16, highByte a16]
  | .lxiH a16 => [opcodeBits 0b00 0b100 0b001, lowByte a16, highByte a16]
  | .lxiSP a16 => [opcodeBits 0b00 0b110 0b001, lowByte a16, highByte a16]
  | .lda a16 => [opcodeBits 0b00 0b111 0b010, lowByte a16, highByte a16]
  | .sta a16 => [opcodeBits 0b00 0b110 0b010, lowByte a16, highByte a16]
  | .lhld a16 => [opcodeBits 0b00 0b101 0b010, lowByte a16, highByte a16]
  | .shld a16 => [opcodeBits 0b00 0b100 0b010, lowByte a16, highByte a16]
  | .ldaxB => [opcodeBits 0b00 0b001 0b010]
  | .ldaxD => [opcodeBits 0b00 0b011 0b010]
  | .staxB => [opcodeBits 0b00 0b000 0b010]
  | .staxD => [opcodeBits 0b00 0b010 0b010]
  | .xchg => [opcodeBits 0b11 0b101 0b011]
  | .addB => [opcodeBits 0b10 0b000 0b000]
  | .addC => [opcodeBits 0b10 0b000 0b001]
  | .addD => [opcodeBits 0b10 0b000 0b010]
  | .addE => [opcodeBits 0b10 0b000 0b011]
  | .addH => [opcodeBits 0b10 0b000 0b100]
  | .addL => [opcodeBits 0b10 0b000 0b101]
  | .addA => [opcodeBits 0b10 0b000 0b111]
  | .addM => [opcodeBits 0b10 0b000 0b110]
  | .adi d8 => [opcodeBits 0b11 0b000 0b110, d8]
  | .adcB => [opcodeBits 0b10 0b001 0b000]
  | .adcC => [opcodeBits 0b10 0b001 0b001]
  | .adcD => [opcodeBits 0b10 0b001 0b010]
  | .adcE => [opcodeBits 0b10 0b001 0b011]
  | .adcH => [opcodeBits 0b10 0b001 0b100]
  | .adcL => [opcodeBits 0b10 0b001 0b101]
  | .adcA => [opcodeBits 0b10 0b001 0b111]
  | .adcM => [opcodeBits 0b10 0b001 0b110]
  | .aci d8 => [opcodeBits 0b11 0b001 0b110, d8]
  | .subB => [opcodeBits 0b10 0b010 0b000]
  | .subC => [opcodeBits 0b10 0b010 0b001]
  | .subD => [opcodeBits 0b10 0b010 0b010]
  | .subE => [opcodeBits 0b10 0b010 0b011]
  | .subH => [opcodeBits 0b10 0b010 0b100]
  | .subL => [opcodeBits 0b10 0b010 0b101]
  | .subA => [opcodeBits 0b10 0b010 0b111]
  | .subM => [opcodeBits 0b10 0b010 0b110]
  | .sui d8 => [opcodeBits 0b11 0b010 0b110, d8]
  | .sbbB => [opcodeBits 0b10 0b011 0b000]
  | .sbbC => [opcodeBits 0b10 0b011 0b001]
  | .sbbD => [opcodeBits 0b10 0b011 0b010]
  | .sbbE => [opcodeBits 0b10 0b011 0b011]
  | .sbbH => [opcodeBits 0b10 0b011 0b100]
  | .sbbL => [opcodeBits 0b10 0b011 0b101]
  | .sbbA => [opcodeBits 0b10 0b011 0b111]
  | .sbbM => [opcodeBits 0b10 0b011 0b110]
  | .sbi d8 => [opcodeBits 0b11 0b011 0b110, d8]
  | .inrB => [opcodeBits 0b00 0b000 0b100]
  | .inrC => [opcodeBits 0b00 0b001 0b100]
  | .inrD => [opcodeBits 0b00 0b010 0b100]
  | .inrE => [opcodeBits 0b00 0b011 0b100]
  | .inrH => [opcodeBits 0b00 0b100 0b100]
  | .inrL => [opcodeBits 0b00 0b101 0b100]
  | .inrA => [opcodeBits 0b00 0b111 0b100]
  | .inrM => [opcodeBits 0b00 0b110 0b100]
  | .dcrB => [opcodeBits 0b00 0b000 0b101]
  | .dcrC => [opcodeBits 0b00 0b001 0b101]
  | .dcrD => [opcodeBits 0b00 0b010 0b101]
  | .dcrE => [opcodeBits 0b00 0b011 0b101]
  | .dcrH => [opcodeBits 0b00 0b100 0b101]
  | .dcrL => [opcodeBits 0b00 0b101 0b101]
  | .dcrA => [opcodeBits 0b00 0b111 0b101]
  | .dcrM => [opcodeBits 0b00 0b110 0b101]
  | .inxB => [opcodeBits 0b00 0b000 0b011]
  | .inxD => [opcodeBits 0b00 0b010 0b011]
  | .inxH => [opcodeBits 0b00 0b100 0b011]
  | .inxSP => [opcodeBits 0b00 0b110 0b011]
  | .dcxB => [opcodeBits 0b00 0b001 0b011]
  | .dcxD => [opcodeBits 0b00 0b011 0b011]
  | .dcxH => [opcodeBits 0b00 0b101 0b011]
  | .dcxSP => [opcodeBits 0b00 0b111 0b011]
  | .dadB => [opcodeBits 0b00 0b001 0b001]
  | .dadD => [opcodeBits 0b00 0b011 0b001]
  | .dadH => [opcodeBits 0b00 0b101 0b001]
  | .dadSP => [opcodeBits 0b00 0b111 0b001]
  | .daa => [opcodeBits 0b00 0b100 0b111]
  | .anaB => [opcodeBits 0b10 0b100 0b000]
  | .anaC => [opcodeBits 0b10 0b100 0b001]
  | .anaD => [opcodeBits 0b10 0b100 0b010]
  | .anaE => [opcodeBits 0b10 0b100 0b011]
  | .anaH => [opcodeBits 0b10 0b100 0b100]
  | .anaL => [opcodeBits 0b10 0b100 0b101]
  | .anaA => [opcodeBits 0b10 0b100 0b111]
  | .anaM => [opcodeBits 0b10 0b100 0b110]
  | .ani d8 => [opcodeBits 0b11 0b100 0b110, d8]
  | .xraB => [opcodeBits 0b10 0b101 0b000]
  | .xraC => [opcodeBits 0b10 0b101 0b001]
  | .xraD => [opcodeBits 0b10 0b101 0b010]
  | .xraE => [opcodeBits 0b10 0b101 0b011]
  | .xraH => [opcodeBits 0b10 0b101 0b100]
  | .xraL => [opcodeBits 0b10 0b101 0b101]
  | .xraA => [opcodeBits 0b10 0b101 0b111]
  | .xraM => [opcodeBits 0b10 0b101 0b110]
  | .xri d8 => [opcodeBits 0b11 0b101 0b110, d8]
  | .oraB => [opcodeBits 0b10 0b110 0b000]
  | .oraC => [opcodeBits 0b10 0b110 0b001]
  | .oraD => [opcodeBits 0b10 0b110 0b010]
  | .oraE => [opcodeBits 0b10 0b110 0b011]
  | .oraH => [opcodeBits 0b10 0b110 0b100]
  | .oraL => [opcodeBits 0b10 0b110 0b101]
  | .oraA => [opcodeBits 0b10 0b110 0b111]
  | .oraM => [opcodeBits 0b10 0b110 0b110]
  | .ori d8 => [opcodeBits 0b11 0b110 0b110, d8]
  | .cmpB => [opcodeBits 0b10 0b111 0b000]
  | .cmpC => [opcodeBits 0b10 0b111 0b001]
  | .cmpD => [opcodeBits 0b10 0b111 0b010]
  | .cmpE => [opcodeBits 0b10 0b111 0b011]
  | .cmpH => [opcodeBits 0b10 0b111 0b100]
  | .cmpL => [opcodeBits 0b10 0b111 0b101]
  | .cmpA => [opcodeBits 0b10 0b111 0b111]
  | .cmpM => [opcodeBits 0b10 0b111 0b110]
  | .cpi d8 => [opcodeBits 0b11 0b111 0b110, d8]
  | .rlc => [opcodeBits 0b00 0b000 0b111]
  | .rrc => [opcodeBits 0b00 0b001 0b111]
  | .ral => [opcodeBits 0b00 0b010 0b111]
  | .rar => [opcodeBits 0b00 0b011 0b111]
  | .cma => [opcodeBits 0b00 0b101 0b111]
  | .cmc => [opcodeBits 0b00 0b111 0b111]
  | .stc => [opcodeBits 0b00 0b110 0b111]
  | .jmp a16 => [opcodeBits 0b11 0b000 0b011, lowByte a16, highByte a16]
  | .jnz a16 => [opcodeBits 0b11 0b000 0b010, lowByte a16, highByte a16]
  | .jz a16 => [opcodeBits 0b11 0b001 0b010, lowByte a16, highByte a16]
  | .jnc a16 => [opcodeBits 0b11 0b010 0b010, lowByte a16, highByte a16]
  | .jc a16 => [opcodeBits 0b11 0b011 0b010, lowByte a16, highByte a16]
  | .jpo a16 => [opcodeBits 0b11 0b100 0b010, lowByte a16, highByte a16]
  | .jpe a16 => [opcodeBits 0b11 0b101 0b010, lowByte a16, highByte a16]
  | .jp a16 => [opcodeBits 0b11 0b110 0b010, lowByte a16, highByte a16]
  | .jm a16 => [opcodeBits 0b11 0b111 0b010, lowByte a16, highByte a16]
  | .call a16 => [opcodeBits 0b11 0b001 0b101, lowByte a16, highByte a16]
  | .cnz a16 => [opcodeBits 0b11 0b000 0b100, lowByte a16, highByte a16]
  | .cz a16 => [opcodeBits 0b11 0b001 0b100, lowByte a16, highByte a16]
  | .cnc a16 => [opcodeBits 0b11 0b010 0b100, lowByte a16, highByte a16]
  | .cc a16 => [opcodeBits 0b11 0b011 0b100, lowByte a16, highByte a16]
  | .cpo a16 => [opcodeBits 0b11 0b100 0b100, lowByte a16, highByte a16]
  | .cpe a16 => [opcodeBits 0b11 0b101 0b100, lowByte a16, highByte a16]
  | .cp a16 => [opcodeBits 0b11 0b110 0b100, lowByte a16, highByte a16]
  | .cm a16 => [opcodeBits 0b11 0b111 0b100, lowByte a16, highByte a16]
  | .ret => [opcodeBits 0b11 0b001 0b001]
  | .rnz => [opcodeBits 0b11 0b000 0b000]
  | .rz => [opcodeBits 0b11 0b001 0b000]
  | .rnc => [opcodeBits 0b11 0b010 0b000]
  | .rc => [opcodeBits 0b11 0b011 0b000]
  | .rpo => [opcodeBits 0b11 0b100 0b000]
  | .rpe => [opcodeBits 0b11 0b101 0b000]
  | .rp => [opcodeBits 0b11 0b110 0b000]
  | .rm => [opcodeBits 0b11 0b111 0b000]
  | .rst0 => [opcodeBits 0b11 0b000 0b111]
  | .rst1 => [opcodeBits 0b11 0b001 0b111]
  | .rst2 => [opcodeBits 0b11 0b010 0b111]
  | .rst3 => [opcodeBits 0b11 0b011 0b111]
  | .rst4 => [opcodeBits 0b11 0b100 0b111]
  | .rst5 => [opcodeBits 0b11 0b101 0b111]
  | .rst6 => [opcodeBits 0b11 0b110 0b111]
  | .rst7 => [opcodeBits 0b11 0b111 0b111]
  | .pchl => [opcodeBits 0b11 0b101 0b001]
  | .jmpCB a16 => [opcodeBits 0b11 0b001 0b011, lowByte a16, highByte a16]
  | .retD9 => [opcodeBits 0b11 0b011 0b001]
  | .callDD a16 => [opcodeBits 0b11 0b011 0b101, lowByte a16, highByte a16]
  | .callED a16 => [opcodeBits 0b11 0b101 0b101, lowByte a16, highByte a16]
  | .callFD a16 => [opcodeBits 0b11 0b111 0b101, lowByte a16, highByte a16]
  | .inPort d8 => [opcodeBits 0b11 0b011 0b011, d8]
  | .outPort d8 => [opcodeBits 0b11 0b010 0b011, d8]
  | .pushB => [opcodeBits 0b11 0b000 0b101]
  | .pushD => [opcodeBits 0b11 0b010 0b101]
  | .pushH => [opcodeBits 0b11 0b100 0b101]
  | .pushPSW => [opcodeBits 0b11 0b110 0b101]
  | .popB => [opcodeBits 0b11 0b000 0b001]
  | .popD => [opcodeBits 0b11 0b010 0b001]
  | .popH => [opcodeBits 0b11 0b100 0b001]
  | .popPSW => [opcodeBits 0b11 0b110 0b001]
  | .xthl => [opcodeBits 0b11 0b100 0b011]
  | .sphl => [opcodeBits 0b11 0b111 0b001]
  | .ei => [opcodeBits 0b11 0b111 0b011]
  | .di => [opcodeBits 0b11 0b110 0b011]
  | .hlt => [opcodeBits 0b01 0b110 0b110]
  | .nop => [opcodeBits 0b00 0b000 0b000]
  | .nop08 => [opcodeBits 0b00 0b001 0b000]
  | .nop10 => [opcodeBits 0b00 0b010 0b000]
  | .nop18 => [opcodeBits 0b00 0b011 0b000]
  | .nop20 => [opcodeBits 0b00 0b100 0b000]
  | .nop28 => [opcodeBits 0b00 0b101 0b000]
  | .nop30 => [opcodeBits 0b00 0b110 0b000]
  | .nop38 => [opcodeBits 0b00 0b111 0b000]

/-- The first byte of an instruction, which alone decides it (30_encoding.md R61). -/
def Instr.opcode (i : Instr) : Byte := (encode i).headD 0

/-- The declared length of an instruction (R60, R74). -/
def Instr.length (i : Instr) : Nat := (lookup i.opcode).length

/-- The flags an instruction declares (R60, R75). -/
def Instr.flags (i : Instr) : List FlagName := (lookup i.opcode).flags

/-! The host's reading of a table word. -/

/-- The k-th byte of a number, byte 0 the least significant. -/
def byteOfNat (w k : Nat) : Byte := BitVec.ofNat 8 (w / 256 ^ k)

/-- The longest instruction's three bytes, from the lowest address up, of a word of `nbits` bits; higher bits are 0. -/
def tableWordBytes (nbits w : Nat) : List Byte :=
  let v := w % 2 ^ nbits
  [byteOfNat v 0, byteOfNat v 1, byteOfNat v 2]

/-- The instruction the decoder reads from a word numbered as spec/opcode_table.json numbers it. -/
def decodeTableWord (nbits w : Nat) : Option Instr :=
  match decode (tableWordBytes nbits w) with
  | .ok (i, _) => some i
  | .error _ => none

end Sys2Proof
end

