-- ==== Sys2Proof/Machine/State.lean ====
section
/-! DEFINITION. The state of the machine (10_state.md), the reasons a step can stop, and the state after reset.

State is plain data. The registers, flags, PC, SP, IE, run state with its fault record, and memory are the state the
spec gives (10_state.md R22: there is no other). `build` holds the parameters a transition reads; only a load writes in
it, and only PROG_END (log entry 3); `ports` is the host's side of the port boundary (20_memory.md R49; log entries 8 and 9). -/

namespace Sys2Proof.Machine

/-- The seven 8-bit registers (10_state.md R10). -/
structure Regs where
  a : Byte
  b : Byte
  c : Byte
  d : Byte
  e : Byte
  h : Byte
  l : Byte
  deriving DecidableEq, Repr

/-- The five condition codes (10_state.md R16). -/
structure Flags where
  z : Bool
  s : Bool
  p : Bool
  cy : Bool
  ac : Bool
  deriving DecidableEq, Repr

/-- The reason of a fault: "there is no other reason" (10_state.md R20; 60_exceptions.md R270). -/
inductive FaultReason where
  | unimplementedOpcode
  deriving DecidableEq, Repr

/-- The reason text (60_exceptions.md R270). -/
def FaultReason.text : FaultReason → String
  | .unimplementedOpcode => "unimplemented opcode"

/-- The fault record, `fault.reason`, `fault.addr`, `fault.byte` (10_state.md R20). -/
structure FaultRecord where
  reason : FaultReason
  addr : Word
  byte : Byte
  deriving DecidableEq, Repr

/-- The run state (10_state.md R19). The fault record stands in `faulted`: while run is not Faulted it "has no meaning
and a model may leave it absent" (R20). -/
inductive RunState where
  | running
  | halted
  | faulted (record : FaultRecord)
  deriving DecidableEq, Repr

/-- Memory as its bytes that differ from what an unlisted address reads as, addresses strictly rising (Memory.wf in
Machine/Memory.lean is the form; 10_state.md R21). -/
abbrev Memory := List Host.Cell

/-- A recorded port call (20_memory.md R49: "an observable event `in(n, v)` or `out(n, v)`"). -/
inductive PortEvent where
  | input (port value : Byte)
  | output (port value : Byte)
  deriving DecidableEq, Repr

/-- The host's side of the port boundary (20_memory.md R49): the bytes it will answer next, and the calls made so far,
both oldest first. The model's own fields (log entries 8 and 9). -/
structure Ports where
  inputs : List Byte
  events : List PortEvent
  deriving DecidableEq, Repr

/-- The state of the machine (10_state.md, section 9). -/
structure State where
  regs : Regs
  pc : Word
  sp : Word
  flags : Flags
  ie : Bool
  run : RunState
  mem : Memory
  build : Build
  ports : Ports
  deriving DecidableEq, Repr

/-- Why a step does not take place. -/
inductive Fault where
  /-- Raised by `step` in the run state Halted: "In `Halted`, `step` is not enabled" (41_sequencer.md R111). Safe: the
  machine takes no step there either (log entry 6). -/
  | stepWhileHalted
  /-- Raised by `step` in the run state Faulted: "In `Faulted`, `step` is not enabled" (41_sequencer.md R112). Safe: the
  machine takes no step there either (log entry 6). -/
  | stepWhileFaulted
  deriving DecidableEq, Repr

/-- What the model turns down. -/
inductive Refusal where
  /-- An arm of exec without a meaning. Safe: nothing is proved of it. No arm raises it now. -/
  | notModelled (mnemonic : String)
  /-- Raised by the reset event for an image that does not fit (20_memory.md R51, 60_exceptions.md R286: "an image that
  violates it is refused"). Safe: the run never starts. -/
  | imageDoesNotFit
  /-- Raised by the reset event for a PROG_END above 65,536, which is no value of the parameter (00_scope.md R5). Safe:
  the run never starts (log entry 12). -/
  | progEndOutOfRange
  deriving DecidableEq, Repr

/-- The state that reset constructs before the load (70_reset_and_hazards.md R300, 10_state.md R24), for given
parameters; memory lists nothing, so every byte reads 0x00. -/
def State.fresh (b : Build) : State where
  regs := { a := b.resetRegs.a, b := b.resetRegs.b, c := b.resetRegs.c, d := b.resetRegs.d,
            e := b.resetRegs.e, h := b.resetRegs.h, l := b.resetRegs.l }
  pc := 0
  sp := b.resetRegs.sp
  flags := { z := b.resetRegs.z, s := b.resetRegs.s, p := b.resetRegs.p, cy := b.resetRegs.cy, ac := b.resetRegs.ac }
  ie := false
  run := .running
  mem := []
  build := b
  ports := { inputs := [], events := [] }

/-- The machine right after reset with the spec's default parameters and no image loaded (10_state.md R24): all opcodes
implemented, RESET_REGS zero, PROG_END = LOAD_BASE + length(IMAGE) = 0 (log entries 1 and 4). -/
def State.reset : State := State.fresh { unimplemented := [], progEnd := 0 }

end Sys2Proof.Machine
end

