-- ==== Sys2Proof/Machine/Flags.lean ====
section
/-! DEFINITION. The condition codes (40_condition_codes.md): the five setters, the composite helpers, the branch
conditions, and the flag byte (10_state.md R17). A result is the unmasked number of an operation, a Nat (R80 to R84);
a helper that returns a value returns it beside the flags it leaves. -/

namespace Sys2Proof.Machine

/-! The five setters; each writes one flag. -/

/-- `set_zero(result)`: "1 iff the low 8 bits of the instruction's result are 0" (R80). -/
def Flags.setZero (result : Nat) (f : Flags) : Flags := { f with z := decide (result % 256 = 0) }

/-- `set_sign(result)`: `S <- result[7]` (R81). -/
def Flags.setSign (result : Nat) (f : Flags) : Flags := { f with s := result.testBit 7 }

/-- The number of bits equal to 1 in `result[7:0]` (R82). -/
def popcount8 (result : Nat) : Nat := ((List.range 8).map (fun i => (result.testBit i).toNat)).sum

/-- `set_parity(result)`: "1 if popcount(result[7:0]) is even" (R82). -/
def Flags.setParity (result : Nat) (f : Flags) : Flags := { f with p := decide (popcount8 result % 2 = 0) }

/-- `set_carry(result, bit_width)`: "1 if result > 2^bit_width - 1" (R83). -/
def Flags.setCarry (result width : Nat) (f : Flags) : Flags := { f with cy := decide (result > 2 ^ width - 1) }

/-- `set_aux_carry(a_lo, b_lo, carry_in)`: "1 if a_lo + b_lo + carry_in > 0xF" (R84). -/
def Flags.setAuxCarry (aLo bLo carryIn : Nat) (f : Flags) : Flags :=
  { f with ac := decide (aLo + bLo + carryIn > 0xF) }

/-! The composite helpers. -/

/-- `v[3:0]` of a byte. -/
def lowNibble (v : Byte) : Nat := v.toNat % 16

/-- `v[7:4]` of a byte. -/
def highNibble (v : Byte) : Nat := v.toNat / 16

/-- `zsp(result)`: set_zero, set_sign and set_parity (R86). -/
def Flags.zsp (result : Nat) (f : Flags) : Flags := ((f.setZero result).setSign result).setParity result

/-- `add8(a, b, cin)` (R86). -/
def add8 (a b : Byte) (cin : Bool) (f : Flags) : Byte × Flags :=
  let result := a.toNat + b.toNat + cin.toNat
  (BitVec.ofNat 8 result, ((f.zsp result).setCarry result 8).setAuxCarry (lowNibble a) (lowNibble b) cin.toNat)

/-- `sub8(a, b, bin)` (R87): the result is `(a - b - bin) mod 65536`, and AC comes from the nibble addition of `~b`. -/
def sub8 (a b : Byte) (bin : Bool) (f : Flags) : Byte × Flags :=
  let result := (65536 + a.toNat - (b.toNat + bin.toNat)) % 65536
  (BitVec.ofNat 8 result,
    ((f.zsp result).setCarry result 8).setAuxCarry (lowNibble a) (lowNibble (~~~b)) (1 - bin.toNat))

/-- `logic_flags(result, ac)` (R88): zsp(result), CY <- 0, AC <- ac. -/
def logicFlags (result : Byte) (ac : Bool) (f : Flags) : Flags :=
  { f.zsp result.toNat with cy := false, ac := ac }

/-- `add16(x, y)` (R89): only CY is written. -/
def add16 (x y : Word) (f : Flags) : Word × Flags :=
  let sum := x.toNat + y.toNat
  (BitVec.ofNat 16 sum, f.setCarry sum 16)

/-- The increment of INR (43_arithmetic.md R152, R153): Z, S, P, AC; CY is not written. -/
def inc8 (v : Byte) (f : Flags) : Byte × Flags :=
  let result := v.toNat + 1
  (BitVec.ofNat 8 result, (f.zsp result).setAuxCarry (lowNibble v) 1 0)

/-- The decrement of DCR (43_arithmetic.md R154, R155): Z, S, P, AC; CY is not written. -/
def dec8 (v : Byte) (f : Flags) : Byte × Flags :=
  let result := (65536 + v.toNat - 1) % 65536
  (BitVec.ofNat 8 result, (f.zsp result).setAuxCarry (lowNibble v) 0xE 1)

/-- Whether DAA adds 0x06 (43_arithmetic.md R159). -/
def daaLow (a : Byte) (f : Flags) : Bool := f.ac || decide (lowNibble a > 9)

/-- Whether DAA adds 0x60 and sets CY (43_arithmetic.md R159). -/
def daaHigh (a : Byte) (f : Flags) : Bool :=
  f.cy || decide (highNibble a > 9) || (decide (highNibble a ≥ 9) && decide (lowNibble a > 9))

/-- The decimal adjustment (43_arithmetic.md R159): CY "is never cleared by DAA". -/
def daa8 (a : Byte) (f : Flags) : Byte × Flags :=
  let corr := (if daaLow a f then 0x06 else 0) + (if daaHigh a f then 0x60 else 0)
  let result := a.toNat + corr
  (BitVec.ofNat 8 result,
    { (f.zsp result).setAuxCarry (lowNibble a) (corr % 16) 0 with cy := f.cy || daaHigh a f })

/-- An accumulator operation `ooo` (30_encoding.md R62): the new A and the flags it leaves. The rules are R140 to R151
of 43_arithmetic.md and R170 to R181 of 44_logical.md; a compare discards the difference and keeps A. -/
def aluResult (op : AluOp) (a x : Byte) (f : Flags) : Byte × Flags :=
  match op with
  | .add => add8 a x false f
  | .adc => add8 a x f.cy f
  | .sub => sub8 a x false f
  | .sbb => sub8 a x f.cy f
  | .ana => (a &&& x, logicFlags (a &&& x) ((a ||| x).getLsbD 3) f)
  | .xra => (a ^^^ x, logicFlags (a ^^^ x) false f)
  | .ora => (a ||| x, logicFlags (a ||| x) false f)
  | .cmp => (a, (sub8 a x false f).2)

/-! Branch conditions and the flag byte. -/

/-- `cond(ccc)` (R90). -/
def Flags.cond (f : Flags) : Cond → Bool
  | .nz => !f.z
  | .z => f.z
  | .nc => !f.cy
  | .c => f.cy
  | .po => !f.p
  | .pe => f.p
  | .p => !f.s
  | .m => f.s

/-- `flag_byte()`: bits S, Z, 0, AC, 0, P, 1, CY from bit 7 down (10_state.md R17). -/
def Flags.toByte (f : Flags) : Byte :=
  BitVec.ofNat 8 (128 * f.s.toNat + 64 * f.z.toNat + 16 * f.ac.toNat + 4 * f.p.toNat + 2 + f.cy.toNat)

/-- `set_flag_byte(v)`: "bits 5, 3, 1 of v are ignored" (10_state.md R17). -/
def Flags.ofByte (v : Byte) : Flags where
  s := v.getLsbD 7
  z := v.getLsbD 6
  ac := v.getLsbD 4
  p := v.getLsbD 2
  cy := v.getLsbD 0

end Sys2Proof.Machine
end

