-- ==== Sys2Proof/Machine/Memory.lean ====
section
/-! DEFINITION. Memory as a list of cells in one canonical form: addresses below 65,536 and strictly rising, no cell
equal to what an unlisted address reads as (20_memory.md R40, R41; log entry 2). -/

namespace Sys2Proof.Machine

/-- What an address without a cell reads as: memory is "zero-initialized" (10_state.md R24; 20_memory.md R41). -/
def unlistedByte : Byte := 0

/-- The byte at an address (20_memory.md R41). -/
def Memory.read : Memory → Nat → Byte
  | [], _ => unlistedByte
  | (k, w) :: m, a => if a = k then w else Memory.read m a

/-- A cell in front of a memory, left out where its byte is what an unlisted address reads as. -/
def Memory.cell (a : Nat) (v : Byte) (m : Memory) : Memory :=
  if v = unlistedByte then m else (a, v) :: m

/-- The memory after a byte is stored at an address (20_memory.md R41). -/
def Memory.write : Memory → Nat → Byte → Memory
  | [], a, v => Memory.cell a v []
  | (k, w) :: m, a, v =>
    if a < k then Memory.cell a v ((k, w) :: m)
    else if a = k then Memory.cell a v m
    else (k, w) :: Memory.write m a v

/-- The canonical form of the cells from address `lo` on. -/
def Memory.wfFrom : Nat → Memory → Bool
  | _, [] => true
  | lo, (k, w) :: m => decide (lo ≤ k) && decide (k < memorySize) && decide (w ≠ unlistedByte) && Memory.wfFrom (k + 1) m

/-- The canonical form: equal memories are equal lists. -/
def Memory.wf (m : Memory) : Bool := Memory.wfFrom 0 m

/-- `mem[base + i] <- bytes[i]` for every i (20_memory.md R51). -/
def Memory.load : Memory → Nat → List Byte → Memory
  | m, _, [] => m
  | m, base, b :: bs => Memory.load (Memory.write m base b) (base + 1) bs

end Sys2Proof.Machine
end

