-- ==== Sys2Proof/Machine/Ops.lean ====
section
/-! DEFINITION. The named operations over registers, memory, stack and ports, fetching an instruction, the one
exception, and interrupt service. -/

namespace Sys2Proof.Machine

/-- The outcome of a meaning or a step. -/
abbrev Result := Host.Outcome State Fault Refusal

/-! Registers (10_state.md). -/

/-- `reg[c]` (R11). -/
def Regs.get (g : Regs) : Reg → Byte
  | .b => g.b
  | .c => g.c
  | .d => g.d
  | .e => g.e
  | .h => g.h
  | .l => g.l
  | .a => g.a

/-- `reg[c] <- v` (R11). -/
def Regs.set (g : Regs) (r : Reg) (v : Byte) : Regs :=
  match r with
  | .b => { g with b := v }
  | .c => { g with c := v }
  | .d => { g with d := v }
  | .e => { g with e := v }
  | .h => { g with h := v }
  | .l => { g with l := v }
  | .a => { g with a := v }

/-- `reg[c]` of the machine (R11). -/
def State.reg (s : State) (r : Reg) : Byte := s.regs.get r

/-- `reg[c] <- v` of the machine (R11). -/
def State.setReg (s : State) (r : Reg) (v : Byte) : State := { s with regs := s.regs.set r v }

/-- `read_pair(BC)` (R12). -/
def State.bc (s : State) : Word := wordOf s.regs.b s.regs.c

/-- `read_pair(DE)` (R12). -/
def State.de (s : State) : Word := wordOf s.regs.d s.regs.e

/-- `read_pair(HL)` (R12). -/
def State.hl (s : State) : Word := wordOf s.regs.h s.regs.l

/-- `write_pair(BC, v)` (R12). -/
def State.setBc (s : State) (v : Word) : State :=
  { s with regs := { s.regs with b := highByte v, c := lowByte v } }

/-- `write_pair(DE, v)` (R12). -/
def State.setDe (s : State) (v : Word) : State :=
  { s with regs := { s.regs with d := highByte v, e := lowByte v } }

/-- `write_pair(HL, v)` (R12). -/
def State.setHl (s : State) (v : Word) : State :=
  { s with regs := { s.regs with h := highByte v, l := lowByte v } }

/-- SP <- v (R15). -/
def State.setSp (s : State) (v : Word) : State := { s with sp := v }

/-- The flags become f (R16). -/
def State.setFlags (s : State) (f : Flags) : State := { s with flags := f }

/-! PC (10_state.md R14; 41_sequencer.md R104, R106). -/

/-- PC <- target: "the instruction sets PC itself" (00_scope.md R7). -/
def State.jump (s : State) (target : Word) : State := { s with pc := target }

/-- `next = (PC + length) mod 65536` (41_sequencer.md R104). -/
def State.nextPc (s : State) (length : Word) : Word := s.pc + length

/-- The default advance of PC (41_sequencer.md R106). -/
def State.advance (s : State) (length : Word) : State := s.jump (s.nextPc length)

/-! Memory (20_memory.md R41, R44). -/

/-- `MemRead(addr, 1)` (R41). -/
def State.readByte (s : State) (addr : Word) : Byte := s.mem.read addr.toNat

/-- `MemWrite(addr, 1, v)` (R41). -/
def State.writeByte (s : State) (addr : Word) (v : Byte) : State := { s with mem := s.mem.write addr.toNat v }

/-- `MemRead(addr, 2)`: the low byte at `addr`, the high byte at `addr + 1` modulo 65,536 (R44, R42). -/
def State.readWord (s : State) (addr : Word) : Word := wordOf (s.readByte (addr + 1)) (s.readByte addr)

/-- `MemWrite(addr, 2, v)` (R44, R42). -/
def State.writeWord (s : State) (addr : Word) (v : Word) : State :=
  (s.writeByte addr (lowByte v)).writeByte (addr + 1) (highByte v)

/-! The stack (20_memory.md R46). -/

/-- `push16(v)`: high byte at SP - 1, low byte at SP - 2, then SP is SP - 2. -/
def State.push16 (s : State) (v : Word) : State :=
  ((s.writeByte (s.sp - 1) (highByte v)).writeByte (s.sp - 2) (lowByte v)).setSp (s.sp - 2)

/-- The word `pop16()` returns: low byte at SP, high byte at SP + 1. -/
def State.top16 (s : State) : Word := wordOf (s.readByte (s.sp + 1)) (s.readByte s.sp)

/-- The state `pop16()` leaves: SP is SP + 2. -/
def State.drop16 (s : State) : State := s.setSp (s.sp + 2)

/-! The port boundary (20_memory.md R49). -/

/-- What `read_port(n)` answers now: the host's next input byte, or, where none is given, a free value that is a fresh
one for each port call (log entry 8). -/
def State.portByte (s : State) (n : Byte) : Byte :=
  match s.ports.inputs with
  | v :: _ => v
  | [] => Config.freePortByte s.ports.events.length n

/-- `read_port(n)` has answered v: the input byte is used up and "event in(n, v) is recorded"
(46_stack_io_control.md R246). -/
def State.recordInput (s : State) (n v : Byte) : State :=
  { s with ports := { inputs := s.ports.inputs.tail, events := s.ports.events ++ [.input n v] } }

/-- `write_port(n, v)`: "event out(b2, A) is recorded" (46_stack_io_control.md R247). -/
def State.recordOutput (s : State) (n v : Byte) : State :=
  { s with ports := { inputs := s.ports.inputs, events := s.ports.events ++ [.output n v] } }

/-! Control state (10_state.md R18, R19). -/

/-- IE <- v (R18). -/
def State.setIe (s : State) (v : Bool) : State := { s with ie := v }

/-- run <- r (R19). -/
def State.setRun (s : State) (r : RunState) : State := { s with run := r }

/-! Fetching an instruction (41_sequencer.md R102, R104). -/

/-- The opcode at PC (R102). -/
def State.fetchOpcode (s : State) : Byte := s.readByte s.pc

/-- The instruction at PC with its operand bytes at PC + 1 and PC + 2, modulo 65,536 (R103, R104). -/
def State.fetchInstr (s : State) : Instr :=
  assemble s.fetchOpcode (s.readByte (s.pc + 1)) (s.readByte (s.pc + 2))

/-- "`op` in `IMPLEMENTED`" (R103; 30_encoding.md R72). -/
def State.implements (s : State) (op : Byte) : Bool := !s.build.unimplemented.contains op

/-- `PC >= PROG_END` (R101). -/
def State.pastProgramEnd (s : State) : Bool := decide (s.pc.toNat ≥ s.build.progEnd)

/-! Exceptions (60_exceptions.md). -/

/-- `raise Faulted(reason, addr, byte)`: run and the fault record are written, "nothing else changes" (R270, R271). -/
def State.raiseFaulted (s : State) (reason : FaultReason) (addr : Word) (byte : Byte) : State :=
  s.setRun (.faulted { reason := reason, addr := addr, byte := byte })

/-- The address a restart goes to, `8 * n` (45_branch.md R227; 60_exceptions.md R275). -/
def restartAddress (n : Fin 8) : Word := BitVec.ofNat 16 (8 * n.val)

/-- Whether `irq(n)` is accepted: "if and only if `run = Running`, the end-of-program condition does not hold and
`IE = 1`" (60_exceptions.md R274). -/
def State.acceptsIrq (s : State) : Bool := decide (s.run = .running) && !s.pastProgramEnd && s.ie

/-- Interrupt service, the transition of an accepted request: IE <- 0, push16(PC), PC <- 8 * n (R275). -/
def State.serviceIrq (s : State) (n : Fin 8) : State :=
  ((s.setIe false).push16 s.pc).jump (restartAddress n)

/-- The event `irq(n)`: service if accepted, else "the event is ignored: no state changes" (R274, R275). -/
def State.irq (s : State) (n : Fin 8) : State := if s.acceptsIrq then s.serviceIrq n else s

/-- `pc <- pop16()`: the return of RET and of an interrupt handler, which "returns with `RET`" (45_branch.md R218;
60_exceptions.md R278). -/
def State.popPc (s : State) : State := s.drop16.jump s.top16

end Sys2Proof.Machine
end

