-- ==== Sys2Proof/Machine/Operands.lean ====
section
/-! DEFINITION. The operand forms of the instructions (10_state.md R11 to R13; 30_encoding.md R62, R63). -/

namespace Sys2Proof.Machine

/-- A source operand: a register, or M, "the memory byte at address `HL`" (10_state.md R11). -/
def State.source (s : State) : Src → Byte
  | .reg r => s.reg r
  | .mem => s.readByte s.hl

/-- A byte is stored to a register or to M (10_state.md R11). -/
def State.setDest (s : State) (d : Src) (v : Byte) : State :=
  match d with
  | .reg r => s.setReg r v
  | .mem => s.writeByte s.hl v

/-- `rp[p]` of LXI, INX, DCX, DAD (10_state.md R13). -/
def State.pair (s : State) : Pair → Word
  | .bc => s.bc
  | .de => s.de
  | .hl => s.hl
  | .sp => s.sp

/-- `rp[p] <- v` of LXI, INX, DCX, DAD (10_state.md R13). -/
def State.setPair (s : State) (p : Pair) (v : Word) : State :=
  match p with
  | .bc => s.setBc v
  | .de => s.setDe v
  | .hl => s.setHl v
  | .sp => s.setSp v

/-- The address of LDAX and STAX (42_data_transfer.md R130, R131). -/
def State.indexAddress (s : State) : IndexPair → Word
  | .bc => s.bc
  | .de => s.de

/-- `rp[p]` of PUSH (46_stack_io_control.md R240). -/
def State.stackPair (s : State) : StackPair → Word
  | .bc => s.bc
  | .de => s.de
  | .hl => s.hl

/-- `rp[p] <- v` of POP (46_stack_io_control.md R242). -/
def State.setStackPair (s : State) (p : StackPair) (v : Word) : State :=
  match p with
  | .bc => s.setBc v
  | .de => s.setDe v
  | .hl => s.setHl v

/-- PSW: "the pair A (high byte) and the flag byte (low byte)" (00_scope.md R9; 10_state.md R17). -/
def State.psw (s : State) : Word := wordOf s.regs.a s.flags.toByte

/-- A and the flags from a popped PSW (46_stack_io_control.md R243). -/
def State.setPsw (s : State) (v : Word) : State := (s.setFlags (Flags.ofByte (lowByte v))).setReg .a (highByte v)

end Sys2Proof.Machine
end

