-- ==== Sys2Proof/Machine/Branch.lean ====
section
/-! DEFINITION. Jumps, calls, returns, restarts (45_branch.md R200 to R229). No flag is written. -/

namespace Sys2Proof.Machine

/-- `push16(next); pc <- target` (R209, R227). -/
def State.callTo (s : State) (target length : Word) : State := (s.push16 (s.nextPc length)).jump target

/-- `if cond(ccc): pc <- a16` (R201 to R208). -/
def State.jumpWhen (s : State) (cond : Cond) (a16 : Word) : State :=
  if s.flags.cond cond then s.jump a16 else s.advance 3

/-- `if cond(ccc): push16(next); pc <- a16` (R210 to R217). -/
def State.callWhen (s : State) (cond : Cond) (a16 : Word) : State :=
  if s.flags.cond cond then s.callTo a16 3 else s.advance 3

/-- `if cond(ccc): pc <- pop16()` (R219 to R226). -/
def State.returnWhen (s : State) (cond : Cond) : State :=
  if s.flags.cond cond then s.popPc else s.advance 1

/-- JMP a16, 0xC3 (R200). -/
def execJmp (a16 : Word) (s : State) : Result := .next (s.jump a16)

/-- JNZ a16, 0xC2 (R201). -/
def execJnz (a16 : Word) (s : State) : Result := .next (s.jumpWhen .nz a16)

/-- JZ a16, 0xCA (R202). -/
def execJz (a16 : Word) (s : State) : Result := .next (s.jumpWhen .z a16)

/-- JNC a16, 0xD2 (R203). -/
def execJnc (a16 : Word) (s : State) : Result := .next (s.jumpWhen .nc a16)

/-- JC a16, 0xDA (R204). -/
def execJc (a16 : Word) (s : State) : Result := .next (s.jumpWhen .c a16)

/-- JPO a16, 0xE2 (R205). -/
def execJpo (a16 : Word) (s : State) : Result := .next (s.jumpWhen .po a16)

/-- JPE a16, 0xEA (R206). -/
def execJpe (a16 : Word) (s : State) : Result := .next (s.jumpWhen .pe a16)

/-- JP a16, 0xF2 (R207). -/
def execJp (a16 : Word) (s : State) : Result := .next (s.jumpWhen .p a16)

/-- JM a16, 0xFA (R208). -/
def execJm (a16 : Word) (s : State) : Result := .next (s.jumpWhen .m a16)

/-- CALL a16, 0xCD (R209). -/
def execCall (a16 : Word) (s : State) : Result := .next (s.callTo a16 3)

/-- CNZ a16, 0xC4 (R210). -/
def execCnz (a16 : Word) (s : State) : Result := .next (s.callWhen .nz a16)

/-- CZ a16, 0xCC (R211). -/
def execCz (a16 : Word) (s : State) : Result := .next (s.callWhen .z a16)

/-- CNC a16, 0xD4 (R212). -/
def execCnc (a16 : Word) (s : State) : Result := .next (s.callWhen .nc a16)

/-- CC a16, 0xDC (R213). -/
def execCc (a16 : Word) (s : State) : Result := .next (s.callWhen .c a16)

/-- CPO a16, 0xE4 (R214). -/
def execCpo (a16 : Word) (s : State) : Result := .next (s.callWhen .po a16)

/-- CPE a16, 0xEC (R215). -/
def execCpe (a16 : Word) (s : State) : Result := .next (s.callWhen .pe a16)

/-- CP a16, 0xF4 (R216). -/
def execCp (a16 : Word) (s : State) : Result := .next (s.callWhen .p a16)

/-- CM a16, 0xFC (R217). -/
def execCm (a16 : Word) (s : State) : Result := .next (s.callWhen .m a16)

/-- RET, 0xC9 (R218). -/
def execRet (s : State) : Result := .next (s.popPc)

/-- RNZ, 0xC0 (R219). -/
def execRnz (s : State) : Result := .next (s.returnWhen .nz)

/-- RZ, 0xC8 (R220). -/
def execRz (s : State) : Result := .next (s.returnWhen .z)

/-- RNC, 0xD0 (R221). -/
def execRnc (s : State) : Result := .next (s.returnWhen .nc)

/-- RC, 0xD8 (R222). -/
def execRc (s : State) : Result := .next (s.returnWhen .c)

/-- RPO, 0xE0 (R223). -/
def execRpo (s : State) : Result := .next (s.returnWhen .po)

/-- RPE, 0xE8 (R224). -/
def execRpe (s : State) : Result := .next (s.returnWhen .pe)

/-- RP, 0xF0 (R225). -/
def execRp (s : State) : Result := .next (s.returnWhen .p)

/-- RM, 0xF8 (R226). -/
def execRm (s : State) : Result := .next (s.returnWhen .m)

/-- RST 0, 0xC7 (R227). -/
def execRst0 (s : State) : Result := .next (s.callTo (restartAddress 0) 1)

/-- RST 1, 0xCF (R227). -/
def execRst1 (s : State) : Result := .next (s.callTo (restartAddress 1) 1)

/-- RST 2, 0xD7 (R227). -/
def execRst2 (s : State) : Result := .next (s.callTo (restartAddress 2) 1)

/-- RST 3, 0xDF (R227). -/
def execRst3 (s : State) : Result := .next (s.callTo (restartAddress 3) 1)

/-- RST 4, 0xE7 (R227). -/
def execRst4 (s : State) : Result := .next (s.callTo (restartAddress 4) 1)

/-- RST 5, 0xEF (R227). -/
def execRst5 (s : State) : Result := .next (s.callTo (restartAddress 5) 1)

/-- RST 6, 0xF7 (R227). -/
def execRst6 (s : State) : Result := .next (s.callTo (restartAddress 6) 1)

/-- RST 7, 0xFF (R227). -/
def execRst7 (s : State) : Result := .next (s.callTo (restartAddress 7) 1)

/-- PCHL, 0xE9 (R228). -/
def execPchl (s : State) : Result := .next (s.jump s.hl)

/-- JMP a16 duplicate, 0xCB (R229). -/
def execJmpCB (a16 : Word) (s : State) : Result := .next (s.jump a16)

/-- RET duplicate, 0xD9 (R229). -/
def execRetD9 (s : State) : Result := .next (s.popPc)

/-- CALL a16 duplicate, 0xDD (R229). -/
def execCallDD (a16 : Word) (s : State) : Result := .next (s.callTo a16 3)

/-- CALL a16 duplicate, 0xED (R229). -/
def execCallED (a16 : Word) (s : State) : Result := .next (s.callTo a16 3)

/-- CALL a16 duplicate, 0xFD (R229). -/
def execCallFD (a16 : Word) (s : State) : Result := .next (s.callTo a16 3)

end Sys2Proof.Machine
end

