-- ==== Sys2Proof/Machine/DataTransfer.lean ====
section
/-! DEFINITION. Data transfer (42_data_transfer.md R120 to R132). No flag is written. -/

namespace Sys2Proof.Machine

/-- `reg[ddd] <- reg[sss]` (R120). -/
def State.moveRegister (s : State) (dst src : Reg) : State := (s.setReg dst (s.reg src)).advance 1

/-- `reg[ddd] <- MemRead(HL, 1)`, with HL "as it stands before the instruction" (R121). -/
def State.moveFromM (s : State) (dst : Reg) : State := (s.setReg dst (s.readByte s.hl)).advance 1

/-- `MemWrite(HL, 1, reg[sss])` (R122). -/
def State.moveToM (s : State) (src : Reg) : State := (s.writeByte s.hl (s.reg src)).advance 1

/-- `reg[ddd] <- d8` (R123), `MemWrite(HL, 1, d8)` (R124). -/
def State.moveImmediate (s : State) (dst : Src) (d8 : Byte) : State := (s.setDest dst d8).advance 2

/-- The low register takes the first operand byte, the high register the second (R125). -/
def State.loadPair (s : State) (p : Pair) (d16 : Word) : State := (s.setPair p d16).advance 3

/-- `A <- MemRead(addr, 1)` (R126, R130). -/
def State.loadA (s : State) (addr length : Word) : State := (s.setReg .a (s.readByte addr)).advance length

/-- `MemWrite(addr, 1, A)` (R127, R131). -/
def State.storeA (s : State) (addr length : Word) : State := (s.writeByte addr s.regs.a).advance length

/-- H and D, L and E change places (R132). -/
def State.exchangeHlDe (s : State) : State :=
  { s with regs := { s.regs with h := s.regs.d, l := s.regs.e, d := s.regs.h, e := s.regs.l } }

/-- MOV B,B, 0x40 (R120). -/
def execMovBB (s : State) : Result := .next (s.moveRegister .b .b)

/-- MOV B,C, 0x41 (R120). -/
def execMovBC (s : State) : Result := .next (s.moveRegister .b .c)

/-- MOV B,D, 0x42 (R120). -/
def execMovBD (s : State) : Result := .next (s.moveRegister .b .d)

/-- MOV B,E, 0x43 (R120). -/
def execMovBE (s : State) : Result := .next (s.moveRegister .b .e)

/-- MOV B,H, 0x44 (R120). -/
def execMovBH (s : State) : Result := .next (s.moveRegister .b .h)

/-- MOV B,L, 0x45 (R120). -/
def execMovBL (s : State) : Result := .next (s.moveRegister .b .l)

/-- MOV B,A, 0x47 (R120). -/
def execMovBA (s : State) : Result := .next (s.moveRegister .b .a)

/-- MOV C,B, 0x48 (R120). -/
def execMovCB (s : State) : Result := .next (s.moveRegister .c .b)

/-- MOV C,C, 0x49 (R120). -/
def execMovCC (s : State) : Result := .next (s.moveRegister .c .c)

/-- MOV C,D, 0x4A (R120). -/
def execMovCD (s : State) : Result := .next (s.moveRegister .c .d)

/-- MOV C,E, 0x4B (R120). -/
def execMovCE (s : State) : Result := .next (s.moveRegister .c .e)

/-- MOV C,H, 0x4C (R120). -/
def execMovCH (s : State) : Result := .next (s.moveRegister .c .h)

/-- MOV C,L, 0x4D (R120). -/
def execMovCL (s : State) : Result := .next (s.moveRegister .c .l)

/-- MOV C,A, 0x4F (R120). -/
def execMovCA (s : State) : Result := .next (s.moveRegister .c .a)

/-- MOV D,B, 0x50 (R120). -/
def execMovDB (s : State) : Result := .next (s.moveRegister .d .b)

/-- MOV D,C, 0x51 (R120). -/
def execMovDC (s : State) : Result := .next (s.moveRegister .d .c)

/-- MOV D,D, 0x52 (R120). -/
def execMovDD (s : State) : Result := .next (s.moveRegister .d .d)

/-- MOV D,E, 0x53 (R120). -/
def execMovDE (s : State) : Result := .next (s.moveRegister .d .e)

/-- MOV D,H, 0x54 (R120). -/
def execMovDH (s : State) : Result := .next (s.moveRegister .d .h)

/-- MOV D,L, 0x55 (R120). -/
def execMovDL (s : State) : Result := .next (s.moveRegister .d .l)

/-- MOV D,A, 0x57 (R120). -/
def execMovDA (s : State) : Result := .next (s.moveRegister .d .a)

/-- MOV E,B, 0x58 (R120). -/
def execMovEB (s : State) : Result := .next (s.moveRegister .e .b)

/-- MOV E,C, 0x59 (R120). -/
def execMovEC (s : State) : Result := .next (s.moveRegister .e .c)

/-- MOV E,D, 0x5A (R120). -/
def execMovED (s : State) : Result := .next (s.moveRegister .e .d)

/-- MOV E,E, 0x5B (R120). -/
def execMovEE (s : State) : Result := .next (s.moveRegister .e .e)

/-- MOV E,H, 0x5C (R120). -/
def execMovEH (s : State) : Result := .next (s.moveRegister .e .h)

/-- MOV E,L, 0x5D (R120). -/
def execMovEL (s : State) : Result := .next (s.moveRegister .e .l)

/-- MOV E,A, 0x5F (R120). -/
def execMovEA (s : State) : Result := .next (s.moveRegister .e .a)

/-- MOV H,B, 0x60 (R120). -/
def execMovHB (s : State) : Result := .next (s.moveRegister .h .b)

/-- MOV H,C, 0x61 (R120). -/
def execMovHC (s : State) : Result := .next (s.moveRegister .h .c)

/-- MOV H,D, 0x62 (R120). -/
def execMovHD (s : State) : Result := .next (s.moveRegister .h .d)

/-- MOV H,E, 0x63 (R120). -/
def execMovHE (s : State) : Result := .next (s.moveRegister .h .e)

/-- MOV H,H, 0x64 (R120). -/
def execMovHH (s : State) : Result := .next (s.moveRegister .h .h)

/-- MOV H,L, 0x65 (R120). -/
def execMovHL (s : State) : Result := .next (s.moveRegister .h .l)

/-- MOV H,A, 0x67 (R120). -/
def execMovHA (s : State) : Result := .next (s.moveRegister .h .a)

/-- MOV L,B, 0x68 (R120). -/
def execMovLB (s : State) : Result := .next (s.moveRegister .l .b)

/-- MOV L,C, 0x69 (R120). -/
def execMovLC (s : State) : Result := .next (s.moveRegister .l .c)

/-- MOV L,D, 0x6A (R120). -/
def execMovLD (s : State) : Result := .next (s.moveRegister .l .d)

/-- MOV L,E, 0x6B (R120). -/
def execMovLE (s : State) : Result := .next (s.moveRegister .l .e)

/-- MOV L,H, 0x6C (R120). -/
def execMovLH (s : State) : Result := .next (s.moveRegister .l .h)

/-- MOV L,L, 0x6D (R120). -/
def execMovLL (s : State) : Result := .next (s.moveRegister .l .l)

/-- MOV L,A, 0x6F (R120). -/
def execMovLA (s : State) : Result := .next (s.moveRegister .l .a)

/-- MOV A,B, 0x78 (R120). -/
def execMovAB (s : State) : Result := .next (s.moveRegister .a .b)

/-- MOV A,C, 0x79 (R120). -/
def execMovAC (s : State) : Result := .next (s.moveRegister .a .c)

/-- MOV A,D, 0x7A (R120). -/
def execMovAD (s : State) : Result := .next (s.moveRegister .a .d)

/-- MOV A,E, 0x7B (R120). -/
def execMovAE (s : State) : Result := .next (s.moveRegister .a .e)

/-- MOV A,H, 0x7C (R120). -/
def execMovAH (s : State) : Result := .next (s.moveRegister .a .h)

/-- MOV A,L, 0x7D (R120). -/
def execMovAL (s : State) : Result := .next (s.moveRegister .a .l)

/-- MOV A,A, 0x7F (R120). -/
def execMovAA (s : State) : Result := .next (s.moveRegister .a .a)

/-- MOV B,M, 0x46 (R121). -/
def execMovBM (s : State) : Result := .next (s.moveFromM .b)

/-- MOV C,M, 0x4E (R121). -/
def execMovCM (s : State) : Result := .next (s.moveFromM .c)

/-- MOV D,M, 0x56 (R121). -/
def execMovDM (s : State) : Result := .next (s.moveFromM .d)

/-- MOV E,M, 0x5E (R121). -/
def execMovEM (s : State) : Result := .next (s.moveFromM .e)

/-- MOV H,M, 0x66 (R121). -/
def execMovHM (s : State) : Result := .next (s.moveFromM .h)

/-- MOV L,M, 0x6E (R121). -/
def execMovLM (s : State) : Result := .next (s.moveFromM .l)

/-- MOV A,M, 0x7E (R121). -/
def execMovAM (s : State) : Result := .next (s.moveFromM .a)

/-- MOV M,B, 0x70 (R122). -/
def execMovMB (s : State) : Result := .next (s.moveToM .b)

/-- MOV M,C, 0x71 (R122). -/
def execMovMC (s : State) : Result := .next (s.moveToM .c)

/-- MOV M,D, 0x72 (R122). -/
def execMovMD (s : State) : Result := .next (s.moveToM .d)

/-- MOV M,E, 0x73 (R122). -/
def execMovME (s : State) : Result := .next (s.moveToM .e)

/-- MOV M,H, 0x74 (R122). -/
def execMovMH (s : State) : Result := .next (s.moveToM .h)

/-- MOV M,L, 0x75 (R122). -/
def execMovML (s : State) : Result := .next (s.moveToM .l)

/-- MOV M,A, 0x77 (R122). -/
def execMovMA (s : State) : Result := .next (s.moveToM .a)

/-- MVI B,d8, 0x06 (R123). -/
def execMviB (d8 : Byte) (s : State) : Result := .next (s.moveImmediate (.reg .b) d8)

/-- MVI C,d8, 0x0E (R123). -/
def execMviC (d8 : Byte) (s : State) : Result := .next (s.moveImmediate (.reg .c) d8)

/-- MVI D,d8, 0x16 (R123). -/
def execMviD (d8 : Byte) (s : State) : Result := .next (s.moveImmediate (.reg .d) d8)

/-- MVI E,d8, 0x1E (R123). -/
def execMviE (d8 : Byte) (s : State) : Result := .next (s.moveImmediate (.reg .e) d8)

/-- MVI H,d8, 0x26 (R123). -/
def execMviH (d8 : Byte) (s : State) : Result := .next (s.moveImmediate (.reg .h) d8)

/-- MVI L,d8, 0x2E (R123). -/
def execMviL (d8 : Byte) (s : State) : Result := .next (s.moveImmediate (.reg .l) d8)

/-- MVI A,d8, 0x3E (R123). -/
def execMviA (d8 : Byte) (s : State) : Result := .next (s.moveImmediate (.reg .a) d8)

/-- MVI M,d8, 0x36 (R124). -/
def execMviM (d8 : Byte) (s : State) : Result := .next (s.moveImmediate .mem d8)

/-- LXI B,d16, 0x01 (R125). -/
def execLxiB (d16 : Word) (s : State) : Result := .next (s.loadPair .bc d16)

/-- LXI D,d16, 0x11 (R125). -/
def execLxiD (d16 : Word) (s : State) : Result := .next (s.loadPair .de d16)

/-- LXI H,d16, 0x21 (R125). -/
def execLxiH (d16 : Word) (s : State) : Result := .next (s.loadPair .hl d16)

/-- LXI SP,d16, 0x31 (R125). -/
def execLxiSP (d16 : Word) (s : State) : Result := .next (s.loadPair .sp d16)

/-- LDA a16, 0x3A (R126). -/
def execLda (a16 : Word) (s : State) : Result := .next (s.loadA a16 3)

/-- STA a16, 0x32 (R127). -/
def execSta (a16 : Word) (s : State) : Result := .next (s.storeA a16 3)

/-- LHLD a16, 0x2A (R128). -/
def execLhld (a16 : Word) (s : State) : Result := .next ((s.setHl (s.readWord a16)).advance 3)

/-- SHLD a16, 0x22 (R129). -/
def execShld (a16 : Word) (s : State) : Result := .next ((s.writeWord a16 s.hl).advance 3)

/-- LDAX B, 0x0A (R130). -/
def execLdaxB (s : State) : Result := .next (s.loadA (s.indexAddress .bc) 1)

/-- LDAX D, 0x1A (R130). -/
def execLdaxD (s : State) : Result := .next (s.loadA (s.indexAddress .de) 1)

/-- STAX B, 0x02 (R131). -/
def execStaxB (s : State) : Result := .next (s.storeA (s.indexAddress .bc) 1)

/-- STAX D, 0x12 (R131). -/
def execStaxD (s : State) : Result := .next (s.storeA (s.indexAddress .de) 1)

/-- XCHG, 0xEB (R132). -/
def execXchg (s : State) : Result := .next (s.exchangeHlDe.advance 1)

end Sys2Proof.Machine
end

