-- ==== Sys2Proof/Machine/Arithmetic.lean ====
section
/-! DEFINITION. Arithmetic (43_arithmetic.md R140 to R159). -/

namespace Sys2Proof.Machine

/-- An accumulator operation on A and an operand (R140 to R151; 44_logical.md R170 to R181). -/
def State.accumulate (s : State) (op : AluOp) (x : Byte) (length : Word) : State :=
  let r := aluResult op s.regs.a x s.flags
  ((s.setReg .a r.1).setFlags r.2).advance length

/-- INR of a register or M, "the read precedes the write" (R152, R153). -/
def State.increment (s : State) (d : Src) : State :=
  let r := inc8 (s.source d) s.flags
  ((s.setDest d r.1).setFlags r.2).advance 1

/-- DCR of a register or M (R154, R155). -/
def State.decrement (s : State) (d : Src) : State :=
  let r := dec8 (s.source d) s.flags
  ((s.setDest d r.1).setFlags r.2).advance 1

/-- `rp[p] <- (rp[p] + 1) mod 65536` (R156). -/
def State.incrementPair (s : State) (p : Pair) : State := (s.setPair p (s.pair p + 1)).advance 1

/-- `rp[p] <- (rp[p] - 1) mod 65536` (R157). -/
def State.decrementPair (s : State) (p : Pair) : State := (s.setPair p (s.pair p - 1)).advance 1

/-- `sum = HL + rp[p]`; CY from the sum, HL its low 16 bits (R158). -/
def State.addToHl (s : State) (p : Pair) : State :=
  let r := add16 s.hl (s.pair p) s.flags
  ((s.setHl r.1).setFlags r.2).advance 1

/-- DAA (R159). -/
def State.decimalAdjust (s : State) : State :=
  let r := daa8 s.regs.a s.flags
  ((s.setReg .a r.1).setFlags r.2).advance 1

/-- ADD B, 0x80 (R140). -/
def execAddB (s : State) : Result := .next (s.accumulate .add (s.source (.reg .b)) 1)

/-- ADD C, 0x81 (R140). -/
def execAddC (s : State) : Result := .next (s.accumulate .add (s.source (.reg .c)) 1)

/-- ADD D, 0x82 (R140). -/
def execAddD (s : State) : Result := .next (s.accumulate .add (s.source (.reg .d)) 1)

/-- ADD E, 0x83 (R140). -/
def execAddE (s : State) : Result := .next (s.accumulate .add (s.source (.reg .e)) 1)

/-- ADD H, 0x84 (R140). -/
def execAddH (s : State) : Result := .next (s.accumulate .add (s.source (.reg .h)) 1)

/-- ADD L, 0x85 (R140). -/
def execAddL (s : State) : Result := .next (s.accumulate .add (s.source (.reg .l)) 1)

/-- ADD A, 0x87 (R140). -/
def execAddA (s : State) : Result := .next (s.accumulate .add (s.source (.reg .a)) 1)

/-- ADD M, 0x86 (R141). -/
def execAddM (s : State) : Result := .next (s.accumulate .add (s.source .mem) 1)

/-- ADI d8, 0xC6 (R142). -/
def execAdi (d8 : Byte) (s : State) : Result := .next (s.accumulate .add d8 2)

/-- ADC B, 0x88 (R143). -/
def execAdcB (s : State) : Result := .next (s.accumulate .adc (s.source (.reg .b)) 1)

/-- ADC C, 0x89 (R143). -/
def execAdcC (s : State) : Result := .next (s.accumulate .adc (s.source (.reg .c)) 1)

/-- ADC D, 0x8A (R143). -/
def execAdcD (s : State) : Result := .next (s.accumulate .adc (s.source (.reg .d)) 1)

/-- ADC E, 0x8B (R143). -/
def execAdcE (s : State) : Result := .next (s.accumulate .adc (s.source (.reg .e)) 1)

/-- ADC H, 0x8C (R143). -/
def execAdcH (s : State) : Result := .next (s.accumulate .adc (s.source (.reg .h)) 1)

/-- ADC L, 0x8D (R143). -/
def execAdcL (s : State) : Result := .next (s.accumulate .adc (s.source (.reg .l)) 1)

/-- ADC A, 0x8F (R143). -/
def execAdcA (s : State) : Result := .next (s.accumulate .adc (s.source (.reg .a)) 1)

/-- ADC M, 0x8E (R144). -/
def execAdcM (s : State) : Result := .next (s.accumulate .adc (s.source .mem) 1)

/-- ACI d8, 0xCE (R145). -/
def execAci (d8 : Byte) (s : State) : Result := .next (s.accumulate .adc d8 2)

/-- SUB B, 0x90 (R146). -/
def execSubB (s : State) : Result := .next (s.accumulate .sub (s.source (.reg .b)) 1)

/-- SUB C, 0x91 (R146). -/
def execSubC (s : State) : Result := .next (s.accumulate .sub (s.source (.reg .c)) 1)

/-- SUB D, 0x92 (R146). -/
def execSubD (s : State) : Result := .next (s.accumulate .sub (s.source (.reg .d)) 1)

/-- SUB E, 0x93 (R146). -/
def execSubE (s : State) : Result := .next (s.accumulate .sub (s.source (.reg .e)) 1)

/-- SUB H, 0x94 (R146). -/
def execSubH (s : State) : Result := .next (s.accumulate .sub (s.source (.reg .h)) 1)

/-- SUB L, 0x95 (R146). -/
def execSubL (s : State) : Result := .next (s.accumulate .sub (s.source (.reg .l)) 1)

/-- SUB A, 0x97 (R146). -/
def execSubA (s : State) : Result := .next (s.accumulate .sub (s.source (.reg .a)) 1)

/-- SUB M, 0x96 (R147). -/
def execSubM (s : State) : Result := .next (s.accumulate .sub (s.source .mem) 1)

/-- SUI d8, 0xD6 (R148). -/
def execSui (d8 : Byte) (s : State) : Result := .next (s.accumulate .sub d8 2)

/-- SBB B, 0x98 (R149). -/
def execSbbB (s : State) : Result := .next (s.accumulate .sbb (s.source (.reg .b)) 1)

/-- SBB C, 0x99 (R149). -/
def execSbbC (s : State) : Result := .next (s.accumulate .sbb (s.source (.reg .c)) 1)

/-- SBB D, 0x9A (R149). -/
def execSbbD (s : State) : Result := .next (s.accumulate .sbb (s.source (.reg .d)) 1)

/-- SBB E, 0x9B (R149). -/
def execSbbE (s : State) : Result := .next (s.accumulate .sbb (s.source (.reg .e)) 1)

/-- SBB H, 0x9C (R149). -/
def execSbbH (s : State) : Result := .next (s.accumulate .sbb (s.source (.reg .h)) 1)

/-- SBB L, 0x9D (R149). -/
def execSbbL (s : State) : Result := .next (s.accumulate .sbb (s.source (.reg .l)) 1)

/-- SBB A, 0x9F (R149). -/
def execSbbA (s : State) : Result := .next (s.accumulate .sbb (s.source (.reg .a)) 1)

/-- SBB M, 0x9E (R150). -/
def execSbbM (s : State) : Result := .next (s.accumulate .sbb (s.source .mem) 1)

/-- SBI d8, 0xDE (R151). -/
def execSbi (d8 : Byte) (s : State) : Result := .next (s.accumulate .sbb d8 2)

/-- INR B, 0x04 (R152). -/
def execInrB (s : State) : Result := .next (s.increment (.reg .b))

/-- INR C, 0x0C (R152). -/
def execInrC (s : State) : Result := .next (s.increment (.reg .c))

/-- INR D, 0x14 (R152). -/
def execInrD (s : State) : Result := .next (s.increment (.reg .d))

/-- INR E, 0x1C (R152). -/
def execInrE (s : State) : Result := .next (s.increment (.reg .e))

/-- INR H, 0x24 (R152). -/
def execInrH (s : State) : Result := .next (s.increment (.reg .h))

/-- INR L, 0x2C (R152). -/
def execInrL (s : State) : Result := .next (s.increment (.reg .l))

/-- INR A, 0x3C (R152). -/
def execInrA (s : State) : Result := .next (s.increment (.reg .a))

/-- INR M, 0x34 (R153). -/
def execInrM (s : State) : Result := .next (s.increment .mem)

/-- DCR B, 0x05 (R154). -/
def execDcrB (s : State) : Result := .next (s.decrement (.reg .b))

/-- DCR C, 0x0D (R154). -/
def execDcrC (s : State) : Result := .next (s.decrement (.reg .c))

/-- DCR D, 0x15 (R154). -/
def execDcrD (s : State) : Result := .next (s.decrement (.reg .d))

/-- DCR E, 0x1D (R154). -/
def execDcrE (s : State) : Result := .next (s.decrement (.reg .e))

/-- DCR H, 0x25 (R154). -/
def execDcrH (s : State) : Result := .next (s.decrement (.reg .h))

/-- DCR L, 0x2D (R154). -/
def execDcrL (s : State) : Result := .next (s.decrement (.reg .l))

/-- DCR A, 0x3D (R154). -/
def execDcrA (s : State) : Result := .next (s.decrement (.reg .a))

/-- DCR M, 0x35 (R155). -/
def execDcrM (s : State) : Result := .next (s.decrement .mem)

/-- INX B, 0x03 (R156). -/
def execInxB (s : State) : Result := .next (s.incrementPair .bc)

/-- INX D, 0x13 (R156). -/
def execInxD (s : State) : Result := .next (s.incrementPair .de)

/-- INX H, 0x23 (R156). -/
def execInxH (s : State) : Result := .next (s.incrementPair .hl)

/-- INX SP, 0x33 (R156). -/
def execInxSP (s : State) : Result := .next (s.incrementPair .sp)

/-- DCX B, 0x0B (R157). -/
def execDcxB (s : State) : Result := .next (s.decrementPair .bc)

/-- DCX D, 0x1B (R157). -/
def execDcxD (s : State) : Result := .next (s.decrementPair .de)

/-- DCX H, 0x2B (R157). -/
def execDcxH (s : State) : Result := .next (s.decrementPair .hl)

/-- DCX SP, 0x3B (R157). -/
def execDcxSP (s : State) : Result := .next (s.decrementPair .sp)

/-- DAD B, 0x09 (R158). -/
def execDadB (s : State) : Result := .next (s.addToHl .bc)

/-- DAD D, 0x19 (R158). -/
def execDadD (s : State) : Result := .next (s.addToHl .de)

/-- DAD H, 0x29 (R158). -/
def execDadH (s : State) : Result := .next (s.addToHl .hl)

/-- DAD SP, 0x39 (R158). -/
def execDadSP (s : State) : Result := .next (s.addToHl .sp)

/-- DAA, 0x27 (R159). -/
def execDaa (s : State) : Result := .next (s.decimalAdjust)

end Sys2Proof.Machine
end

