-- ==== Sys2Proof/Machine/Logical.lean ====
section
/-! DEFINITION. Bitwise operations, compares, rotates, complement and carry (44_logical.md R170 to R188). -/

namespace Sys2Proof.Machine

/-- A bit as bit 0 of a byte. -/
def bit0 (b : Bool) : Byte := if b then 0x01 else 0x00

/-- A bit as bit 7 of a byte. -/
def bit7 (b : Bool) : Byte := if b then 0x80 else 0x00

/-- `CY <- b`; the other flags keep their values. -/
def State.setCarry (s : State) (b : Bool) : State := s.setFlags { s.flags with cy := b }

/-- A rotate: A becomes `result`, CY receives a bit of A, "Z, S, P and AC keep their values" (section 3). -/
def State.rotateTo (s : State) (result : Byte) (carry : Bool) : State :=
  ((s.setReg .a result).setCarry carry).advance 1

/-- ANA B, 0xA0 (R170). -/
def execAnaB (s : State) : Result := .next (s.accumulate .ana (s.source (.reg .b)) 1)

/-- ANA C, 0xA1 (R170). -/
def execAnaC (s : State) : Result := .next (s.accumulate .ana (s.source (.reg .c)) 1)

/-- ANA D, 0xA2 (R170). -/
def execAnaD (s : State) : Result := .next (s.accumulate .ana (s.source (.reg .d)) 1)

/-- ANA E, 0xA3 (R170). -/
def execAnaE (s : State) : Result := .next (s.accumulate .ana (s.source (.reg .e)) 1)

/-- ANA H, 0xA4 (R170). -/
def execAnaH (s : State) : Result := .next (s.accumulate .ana (s.source (.reg .h)) 1)

/-- ANA L, 0xA5 (R170). -/
def execAnaL (s : State) : Result := .next (s.accumulate .ana (s.source (.reg .l)) 1)

/-- ANA A, 0xA7 (R170). -/
def execAnaA (s : State) : Result := .next (s.accumulate .ana (s.source (.reg .a)) 1)

/-- ANA M, 0xA6 (R171). -/
def execAnaM (s : State) : Result := .next (s.accumulate .ana (s.source .mem) 1)

/-- ANI d8, 0xE6 (R172). -/
def execAni (d8 : Byte) (s : State) : Result := .next (s.accumulate .ana d8 2)

/-- XRA B, 0xA8 (R173). -/
def execXraB (s : State) : Result := .next (s.accumulate .xra (s.source (.reg .b)) 1)

/-- XRA C, 0xA9 (R173). -/
def execXraC (s : State) : Result := .next (s.accumulate .xra (s.source (.reg .c)) 1)

/-- XRA D, 0xAA (R173). -/
def execXraD (s : State) : Result := .next (s.accumulate .xra (s.source (.reg .d)) 1)

/-- XRA E, 0xAB (R173). -/
def execXraE (s : State) : Result := .next (s.accumulate .xra (s.source (.reg .e)) 1)

/-- XRA H, 0xAC (R173). -/
def execXraH (s : State) : Result := .next (s.accumulate .xra (s.source (.reg .h)) 1)

/-- XRA L, 0xAD (R173). -/
def execXraL (s : State) : Result := .next (s.accumulate .xra (s.source (.reg .l)) 1)

/-- XRA A, 0xAF (R173). -/
def execXraA (s : State) : Result := .next (s.accumulate .xra (s.source (.reg .a)) 1)

/-- XRA M, 0xAE (R174). -/
def execXraM (s : State) : Result := .next (s.accumulate .xra (s.source .mem) 1)

/-- XRI d8, 0xEE (R175). -/
def execXri (d8 : Byte) (s : State) : Result := .next (s.accumulate .xra d8 2)

/-- ORA B, 0xB0 (R176). -/
def execOraB (s : State) : Result := .next (s.accumulate .ora (s.source (.reg .b)) 1)

/-- ORA C, 0xB1 (R176). -/
def execOraC (s : State) : Result := .next (s.accumulate .ora (s.source (.reg .c)) 1)

/-- ORA D, 0xB2 (R176). -/
def execOraD (s : State) : Result := .next (s.accumulate .ora (s.source (.reg .d)) 1)

/-- ORA E, 0xB3 (R176). -/
def execOraE (s : State) : Result := .next (s.accumulate .ora (s.source (.reg .e)) 1)

/-- ORA H, 0xB4 (R176). -/
def execOraH (s : State) : Result := .next (s.accumulate .ora (s.source (.reg .h)) 1)

/-- ORA L, 0xB5 (R176). -/
def execOraL (s : State) : Result := .next (s.accumulate .ora (s.source (.reg .l)) 1)

/-- ORA A, 0xB7 (R176). -/
def execOraA (s : State) : Result := .next (s.accumulate .ora (s.source (.reg .a)) 1)

/-- ORA M, 0xB6 (R177). -/
def execOraM (s : State) : Result := .next (s.accumulate .ora (s.source .mem) 1)

/-- ORI d8, 0xF6 (R178). -/
def execOri (d8 : Byte) (s : State) : Result := .next (s.accumulate .ora d8 2)

/-- CMP B, 0xB8 (R179). -/
def execCmpB (s : State) : Result := .next (s.accumulate .cmp (s.source (.reg .b)) 1)

/-- CMP C, 0xB9 (R179). -/
def execCmpC (s : State) : Result := .next (s.accumulate .cmp (s.source (.reg .c)) 1)

/-- CMP D, 0xBA (R179). -/
def execCmpD (s : State) : Result := .next (s.accumulate .cmp (s.source (.reg .d)) 1)

/-- CMP E, 0xBB (R179). -/
def execCmpE (s : State) : Result := .next (s.accumulate .cmp (s.source (.reg .e)) 1)

/-- CMP H, 0xBC (R179). -/
def execCmpH (s : State) : Result := .next (s.accumulate .cmp (s.source (.reg .h)) 1)

/-- CMP L, 0xBD (R179). -/
def execCmpL (s : State) : Result := .next (s.accumulate .cmp (s.source (.reg .l)) 1)

/-- CMP A, 0xBF (R179). -/
def execCmpA (s : State) : Result := .next (s.accumulate .cmp (s.source (.reg .a)) 1)

/-- CMP M, 0xBE (R180). -/
def execCmpM (s : State) : Result := .next (s.accumulate .cmp (s.source .mem) 1)

/-- CPI d8, 0xFE (R181). -/
def execCpi (d8 : Byte) (s : State) : Result := .next (s.accumulate .cmp d8 2)

/-- RLC, 0x07 (R182). -/
def execRlc (s : State) : Result := .next (s.rotateTo (s.regs.a <<< 1 ||| bit0 (s.regs.a.getLsbD 7)) (s.regs.a.getLsbD 7))

/-- RRC, 0x0F (R183). -/
def execRrc (s : State) : Result := .next (s.rotateTo (s.regs.a >>> 1 ||| bit7 (s.regs.a.getLsbD 0)) (s.regs.a.getLsbD 0))

/-- RAL, 0x17 (R184). -/
def execRal (s : State) : Result := .next (s.rotateTo (s.regs.a <<< 1 ||| bit0 s.flags.cy) (s.regs.a.getLsbD 7))

/-- RAR, 0x1F (R185). -/
def execRar (s : State) : Result := .next (s.rotateTo (s.regs.a >>> 1 ||| bit7 s.flags.cy) (s.regs.a.getLsbD 0))

/-- CMA, 0x2F (R186). -/
def execCma (s : State) : Result := .next ((s.setReg .a (~~~s.regs.a)).advance 1)

/-- CMC, 0x3F (R187). -/
def execCmc (s : State) : Result := .next ((s.setCarry (!s.flags.cy)).advance 1)

/-- STC, 0x37 (R188). -/
def execStc (s : State) : Result := .next ((s.setCarry true).advance 1)

end Sys2Proof.Machine
end

