-- ==== Sys2Proof/Machine/StackIoControl.lean ====
section
/-! DEFINITION. Stack, input/output and machine control (46_stack_io_control.md R240 to R251). -/

namespace Sys2Proof.Machine

/-- IN d8, 0xDB (R246). -/
def execInPort (p : Byte) (s : State) : Result := .next (((s.recordInput p (s.portByte p)).setReg .a (s.portByte p)).advance 2)

/-- OUT d8, 0xD3 (R247). -/
def execOutPort (p : Byte) (s : State) : Result := .next ((s.recordOutput p s.regs.a).advance 2)

/-- PUSH B, 0xC5 (R240). -/
def execPushB (s : State) : Result := .next ((s.push16 (s.stackPair .bc)).advance 1)

/-- PUSH D, 0xD5 (R240). -/
def execPushD (s : State) : Result := .next ((s.push16 (s.stackPair .de)).advance 1)

/-- PUSH H, 0xE5 (R240). -/
def execPushH (s : State) : Result := .next ((s.push16 (s.stackPair .hl)).advance 1)

/-- PUSH PSW, 0xF5 (R241). -/
def execPushPSW (s : State) : Result := .next ((s.push16 s.psw).advance 1)

/-- POP B, 0xC1 (R242). -/
def execPopB (s : State) : Result := .next ((s.drop16.setStackPair .bc s.top16).advance 1)

/-- POP D, 0xD1 (R242). -/
def execPopD (s : State) : Result := .next ((s.drop16.setStackPair .de s.top16).advance 1)

/-- POP H, 0xE1 (R242). -/
def execPopH (s : State) : Result := .next ((s.drop16.setStackPair .hl s.top16).advance 1)

/-- POP PSW, 0xF1 (R243). -/
def execPopPSW (s : State) : Result := .next ((s.drop16.setPsw s.top16).advance 1)

/-- XTHL, 0xE3 (R244). -/
def execXthl (s : State) : Result := .next (((s.writeWord s.sp s.hl).setHl s.top16).advance 1)

/-- SPHL, 0xF9 (R245). -/
def execSphl (s : State) : Result := .next ((s.setSp s.hl).advance 1)

/-- EI, 0xFB (R248). -/
def execEi (s : State) : Result := .next ((s.setIe true).advance 1)

/-- DI, 0xF3 (R249). -/
def execDi (s : State) : Result := .next ((s.setIe false).advance 1)

/-- HLT, 0x76 (R250). -/
def execHlt (s : State) : Result := .next ((s.setRun .halted).advance 1)

/-- NOP, 0x00 (R251). -/
def execNop (s : State) : Result := .next (s.advance 1)

/-- NOP duplicate, 0x08 (R251). -/
def execNop08 (s : State) : Result := .next (s.advance 1)

/-- NOP duplicate, 0x10 (R251). -/
def execNop10 (s : State) : Result := .next (s.advance 1)

/-- NOP duplicate, 0x18 (R251). -/
def execNop18 (s : State) : Result := .next (s.advance 1)

/-- NOP duplicate, 0x20 (R251). -/
def execNop20 (s : State) : Result := .next (s.advance 1)

/-- NOP duplicate, 0x28 (R251). -/
def execNop28 (s : State) : Result := .next (s.advance 1)

/-- NOP duplicate, 0x30 (R251). -/
def execNop30 (s : State) : Result := .next (s.advance 1)

/-- NOP duplicate, 0x38 (R251). -/
def execNop38 (s : State) : Result := .next (s.advance 1)

end Sys2Proof.Machine
end

