-- ==== Sys2Proof/Machine/Step.lean ====
section
/-! DEFINITION. One step of the sequencer (41_sequencer.md R100 to R107, R111, R112), and the placing of an instruction
where the next step fetches it. -/

namespace Sys2Proof.Machine

/-- A step of a running machine (R100): the end-of-program test, the fetch, the look-up with its fault, the operands,
the handler with the advance of PC. -/
def State.runStep (s : State) : Host.Outcome State Fault Refusal :=
  if s.pastProgramEnd then .next s
  else if s.implements s.fetchOpcode then exec s.fetchInstr s
  else .next (s.raiseFaulted .unimplementedOpcode s.pc s.fetchOpcode)

/-- One step (R100). At the end of program "`step` changes nothing" (R101; log entry 5); in Halted and Faulted it "is not
enabled" (R111, R112; log entry 6). -/
def step (s : State) : Host.Outcome State Fault Refusal :=
  match s.run with
  | .running => s.runStep
  | .halted => .fault .stepWhileHalted
  | .faulted _ => .fault .stepWhileFaulted

/-- The state with an instruction stored at PC, where step fetches, its three bytes from PC on modulo 65,536. The next
step runs it: run becomes Running, the opcode counts as implemented, and PROG_END, if it is not above PC, becomes PC + 1
(log entry 13). -/
def State.withFetchWord (s : State) (nbits w : Nat) : State :=
  let v := w % 2 ^ nbits
  { ((s.writeByte s.pc (byteOfNat v 0)).writeByte (s.pc + 1) (byteOfNat v 1)).writeByte (s.pc + 2) (byteOfNat v 2) with
    run := .running
    build := { s.build with
      unimplemented := s.build.unimplemented.filter (fun op => op != byteOfNat v 0)
      progEnd := max s.build.progEnd (s.pc.toNat + 1) } }

end Sys2Proof.Machine
end

