-- ==== Sys2Proof/Machine/HostEvents.lean ====
section
/-! DEFINITION. What the host can do between two steps (00_scope.md R4; 41_sequencer.md R109, R110), and the run loop. -/

namespace Sys2Proof.Machine

/-- `load(base, bytes)`: "mem[base + i] <- bytes[i]" (20_memory.md R51). -/
def State.load (s : State) (base : Nat) (bytes : List Byte) : State := { s with mem := s.mem.load base bytes }

/-- A load with all it sets: the image in memory, and PROG_END, "base + length(bytes) unless the host overrides it"
(20_memory.md R51). -/
def State.loadSetup (s : State) (p : Setup) : State :=
  { s.load p.loadBase.toNat p.image with build := { s.build with progEnd := p.programEnd } }

/-- `reset()` up to the load (70_reset_and_hazards.md R300): a fresh state for the parameters, which "are not state and
are not touched by reset". The record of port calls and the host's input bytes are the host's and go on (log entry 9). -/
def State.renew (s : State) : State := { State.fresh s.build with ports := s.ports }

/-- The event `reset` in any run state (R301), with the load that follows it, if the host performs one: "a reset without
a reload leaves 65,536 `NOP`s" (R300). A load that the spec does not define is refused (log entry 12). -/
def State.resetTo (s : State) (load : Option Setup) : Result :=
  match load with
  | none => .next s.renew
  | some p =>
    if p.imageFits then
      if p.progEndInRange then .next (s.renew.loadSetup p)
      else .refused .progEndOutOfRange
    else .refused .imageDoesNotFit

/-- The events of the interface (R4). `irq` takes "`n` in 0 to 7" (60_exceptions.md R273). -/
inductive HostEvent where
  | step
  | irq (n : Fin 8)
  | reset (load : Option Setup)
  deriving DecidableEq, Repr

/-- The transition of an event (41_sequencer.md R110: nothing else changes the state between steps). -/
def State.react (s : State) : HostEvent → Result
  | .step => Sys2Proof.Machine.step s
  | .irq n => .next (s.irq n)
  | .reset load => s.resetTo load

/-- `end_of_program = (run = Running and PC >= PROG_END)` (41_sequencer.md R101). -/
def State.endOfProgram (s : State) : Bool := decide (s.run = .running) && s.pastProgramEnd

/-- How a run stands (60_exceptions.md R287). -/
inductive Status where
  | running
  | endOfProgram
  | halted
  | faulted (record : FaultRecord)
  deriving DecidableEq, Repr

/-- The status of a state (R287). -/
def State.status (s : State) : Status :=
  match s.run with
  | .halted => .halted
  | .faulted record => .faulted record
  | .running => if s.pastProgramEnd then .endOfProgram else .running

/-- The host's exit code for a run that has ended (R287, a contract outside the block). -/
def Status.exitCode : Status → Option Nat
  | .running => none
  | .endOfProgram => some 0
  | .halted => some 0
  | .faulted _ => some 1

/-- `run_to_end()`, with fuel (41_sequencer.md R109): while the status is running, step. -/
def State.runToEnd : Nat → State → Result
  | 0, s => .next s
  | fuel + 1, s =>
    match s.status with
    | .running =>
      match Sys2Proof.Machine.step s with
      | .next t => State.runToEnd fuel t
      | .fault r => .fault r
      | .refused r => .refused r
    | .endOfProgram | .halted | .faulted _ => .next s

end Sys2Proof.Machine
end

