-- ==== Sys2Proof/Safety.lean ====
section
/-! DEFINITION. What claims call a good state and a safe run. -/

namespace Sys2Proof.Machine

/-- What every transition of the machine keeps: memory is in its canonical form, PROG_END is an integer 0 to 65,536
(00_scope.md R5), and while the machine is Faulted its fault record is precise: `fault.addr` is PC, which "still equals
`fault.addr`", `fault.byte` is the byte there, and that byte has no handler in this build (60_exceptions.md R271). -/
structure State.Inv (s : State) : Prop where
  memory : s.mem.wf = true
  progEnd : s.build.wf = true
  fault : ∀ record, s.run = .faulted record →
    record.addr = s.pc ∧ record.byte = s.readByte s.pc ∧ s.implements record.byte = false

/-- "A faulted state is never a final state of a correct run: a model treats it as gone wrong" (41_sequencer.md R112). -/
def State.goneWrong (s : State) : Prop := ∃ record, s.run = .faulted record

/-- The step is enabled: "only when `run = Running` and the end-of-program condition ... does not hold"
(41_sequencer.md R100). -/
def State.enabled (s : State) : Prop := s.run = .running ∧ s.pastProgramEnd = false

end Sys2Proof.Machine
end

