-- ==== Sys2Proof/Certificates/Slice0/Obligations.lean ====
section
/-! DEFINITION. The statements for the provers. First the words they are written in, each from the spec and none from
the meanings: the flags of an 8-bit result, the state after an addition or a push, and the tables of what an
instruction may write. Then the statements. -/

namespace Sys2Proof.Claims

open Sys2Proof.Machine

/-- "the number of set bits in the low 8 bits of the result is even" (10_state.md R16). -/
def evenParity (v : Byte) : Bool := decide ((List.range 8).countP (fun i => v.getLsbD i) % 2 = 0)

/-- Z, S, P of an 8-bit result (10_state.md R16), beside a given CY and AC. -/
def resultFlags (v : Byte) (cy ac : Bool) : Flags :=
  { z := decide (v = 0), s := v.getLsbD 7, p := evenParity v, cy := cy, ac := ac }

/-- A carry or borrow as a byte. -/
def carryByte (b : Bool) : Byte := if b then 1 else 0

/-- The state after `A <- add8(A, x, cin)` in an instruction of the given length (40_condition_codes.md R86). -/
def afterAdd (s : State) (x : Byte) (cin : Bool) (length : Word) : State :=
  { s with
    regs := { s.regs with a := s.regs.a + x + carryByte cin }
    flags := resultFlags (s.regs.a + x + carryByte cin)
      (decide (s.regs.a.toNat + x.toNat + cin.toNat > 0xFF))
      (decide (s.regs.a.toNat % 16 + x.toNat % 16 + cin.toNat > 0xF))
    pc := s.pc + length }

/-- The flags of `sub8(a, x, bin)` (40_condition_codes.md R87): CY "iff a < b + bin", AC
"iff a[3:0] + (15 - b[3:0]) + (1 - bin) > 0xF". -/
def differenceFlags (a x : Byte) (bin : Bool) : Flags :=
  resultFlags (a - x - carryByte bin)
    (decide (a.toNat < x.toNat + bin.toNat))
    (decide (a.toNat % 16 + (15 - x.toNat % 16) + (1 - bin.toNat) > 0xF))

/-- The state after `A <- sub8(A, x, bin)` in an instruction of the given length. -/
def afterSub (s : State) (x : Byte) (bin : Bool) (length : Word) : State :=
  { s with
    regs := { s.regs with a := s.regs.a - x - carryByte bin }
    flags := differenceFlags s.regs.a x bin
    pc := s.pc + length }

/-- The state after a compare of A with x (44_logical.md R179: flags as SUB, "A is not" written). -/
def afterCompare (s : State) (x : Byte) (length : Word) : State :=
  { s with flags := differenceFlags s.regs.a x false, pc := s.pc + length }

/-- The state after a bitwise operation gives A the value v (40_condition_codes.md R88). -/
def afterLogic (s : State) (v : Byte) (ac : Bool) (length : Word) : State :=
  { s with
    regs := { s.regs with a := v }
    flags := resultFlags v false ac
    pc := s.pc + length }

/-- The state after `push16(v)` with PC at the given address (20_memory.md R46). -/
def pushed (s : State) (v pc : Word) : State :=
  { s with
    sp := s.sp - 2
    mem := (s.mem.write (s.sp - 1).toNat (highByte v)).write (s.sp - 2).toNat (lowByte v)
    pc := pc }

/-- The correction of DAA (43_arithmetic.md R159): whether the high part is applied, and the number added. -/
def decimalCorrection (a : Byte) (f : Flags) : Bool × Nat :=
  let lsb := a.toNat % 16
  let msb := a.toNat / 16
  let high := decide (f.cy = true ∨ msb > 9 ∨ (msb ≥ 9 ∧ lsb > 9))
  let low := decide (f.ac = true ∨ lsb > 9)
  (high, (if low then 0x06 else 0) + (if high then 0x60 else 0))

/-- The flag byte, its bits written out from bit 7 down: S, Z, 0, AC, 0, P, 1, CY (10_state.md R17). -/
def flagByte (f : Flags) : Byte :=
  BitVec.ofBool f.s ++ BitVec.ofBool f.z ++ 0#1 ++ BitVec.ofBool f.ac ++ 0#1 ++ BitVec.ofBool f.p ++ 1#1 ++
    BitVec.ofBool f.cy

/-- One flag by its name. -/
def flag (f : Flags) : FlagName → Bool
  | .z => f.z
  | .s => f.s
  | .p => f.p
  | .cy => f.cy
  | .ac => f.ac

/-- The instructions that "can execute `pc <- target`" (41_sequencer.md R106). -/
def transfers : Instr → Bool
  | .jmp _ | .jmpCB _ | .jnz _ | .jz _ | .jnc _ | .jc _ | .jpo _ | .jpe _ | .jp _ | .jm _ => true
  | .call _ | .callDD _ | .callED _ | .callFD _ => true
  | .cnz _ | .cz _ | .cnc _ | .cc _ | .cpo _ | .cpe _ | .cp _ | .cm _ => true
  | .ret | .retD9 | .rnz | .rz | .rnc | .rc | .rpo | .rpe | .rp | .rm => true
  | .rst0 | .rst1 | .rst2 | .rst3 | .rst4 | .rst5 | .rst6 | .rst7 | .pchl => true
  | _ => false

/-- The instructions that write SP: "`LXI SP`, `INX SP`, `DCX SP`, `SPHL`, every push and pop, every call and return,
`RST`" (10_state.md R15). -/
def writesSp : Instr → Bool
  | .lxiSP _ | .inxSP | .dcxSP | .sphl => true
  | .pushB | .pushD | .pushH | .pushPSW | .popB | .popD | .popH | .popPSW => true
  | .call _ | .callDD _ | .callED _ | .callFD _ => true
  | .cnz _ | .cz _ | .cnc _ | .cc _ | .cpo _ | .cpe _ | .cp _ | .cm _ => true
  | .ret | .retD9 | .rnz | .rz | .rnc | .rc | .rpo | .rpe | .rp | .rm => true
  | .rst0 | .rst1 | .rst2 | .rst3 | .rst4 | .rst5 | .rst6 | .rst7 => true
  | _ => false

/-- The two bytes a push stores to (20_memory.md R46). -/
def stackBytes (s : State) : List Word := [s.sp - 1, s.sp - 2]

/-- The addresses an instruction stores to (20_memory.md R46's table of writes), computed as its meaning computes them:
`HL`, the pair of STAX, `a16`, `a16 + 1`, the bytes below SP, the bytes at SP for XTHL. -/
def storedAt (s : State) : Instr → List Word
  | .movMB | .movMC | .movMD | .movME | .movMH | .movML | .movMA => [s.hl]
  | .mviM _ | .inrM | .dcrM => [s.hl]
  | .staxB => [s.bc]
  | .staxD => [s.de]
  | .sta a16 => [a16]
  | .shld a16 => [a16, a16 + 1]
  | .pushB | .pushD | .pushH | .pushPSW => stackBytes s
  | .call _ | .callDD _ | .callED _ | .callFD _ => stackBytes s
  | .cnz _ => if s.flags.z then [] else stackBytes s
  | .cz _ => if s.flags.z then stackBytes s else []
  | .cnc _ => if s.flags.cy then [] else stackBytes s
  | .cc _ => if s.flags.cy then stackBytes s else []
  | .cpo _ => if s.flags.p then [] else stackBytes s
  | .cpe _ => if s.flags.p then stackBytes s else []
  | .cp _ => if s.flags.s then [] else stackBytes s
  | .cm _ => if s.flags.s then stackBytes s else []
  | .rst0 | .rst1 | .rst2 | .rst3 | .rst4 | .rst5 | .rst6 | .rst7 => stackBytes s
  | .xthl => [s.sp, s.sp + 1]
  | _ => []

/-- The register of a 3-bit code; code 6 is none (10_state.md R11). -/
def registerOf : Nat → List Reg
  | 0 => [.b]
  | 1 => [.c]
  | 2 => [.d]
  | 3 => [.e]
  | 4 => [.h]
  | 5 => [.l]
  | 7 => [.a]
  | _ => []

/-- The registers of a 2-bit pair code; code 3 is SP, no general register (10_state.md R13). -/
def pairRegisters : Nat → List Reg
  | 0 => [.b, .c]
  | 1 => [.d, .e]
  | 2 => [.h, .l]
  | _ => []

/-- The general registers an instruction may write, from the fields of its opcode byte (30_encoding.md R65 to R68):
q is bits 7:6, y bits 5:3, z bits 2:0. -/
def destinations (op : Byte) : List Reg :=
  let q := op.toNat / 64
  let y := op.toNat / 8 % 8
  let z := op.toNat % 8
  match q, z with
  | 0, 1 => if y % 2 = 1 then [.h, .l] else pairRegisters (y / 2)
  | 0, 2 => if y = 5 then [.h, .l] else if y % 2 = 1 then [.a] else []
  | 0, 3 => pairRegisters (y / 2)
  | 0, 4 => registerOf y
  | 0, 5 => registerOf y
  | 0, 6 => registerOf y
  | 0, 7 => if y ≤ 5 then [.a] else []
  | 0, _ => []
  | 1, _ => registerOf y
  | 2, _ => if y = 7 then [] else [.a]
  | _, 1 => if y % 2 = 1 then [] else if y = 6 then [.a] else pairRegisters (y / 2)
  | _, 3 => if y = 3 then [.a] else if y = 4 then [.h, .l] else if y = 5 then [.d, .e, .h, .l] else []
  | _, 6 => if y = 7 then [] else [.a]
  | _, _ => []

/-- What reset gives every piece of the core's state but memory (10_state.md R24; 70_reset_and_hazards.md R300), with the
machine's RESET_REGS. -/
def renewed (s t : State) : Prop :=
  let r := s.build.resetRegs
  t.pc = 0 ∧ t.run = .running ∧ t.ie = false ∧ t.sp = r.sp ∧
  t.regs = { a := r.a, b := r.b, c := r.c, d := r.d, e := r.e, h := r.h, l := r.l } ∧
  t.flags = { z := r.z, s := r.s, p := r.p, cy := r.cy, ac := r.ac }

/-- `n` executions of one instruction, each from the state the one before it left. -/
def repeated (i : Instr) : Nat → State → Option State
  | 0, s => some s
  | n + 1, s =>
    match exec i s with
    | .next t => repeated i n t
    | .fault _ => none
    | .refused _ => none

end Sys2Proof.Claims

open Sys2Proof Sys2Proof.Machine Sys2Proof.Claims

/-! Encoding and the opcode table. -/

/-- The decoder gives back every encoded instruction, with every operand, and the bytes after it. For the undocumented
duplicates this is the model's choice of constructors of their own (log entry 14). -/
def Obligations.DecodeUndoesEncode : Prop :=
  ∀ (i : Instr) (rest : List Byte), decode (encode i ++ rest) = .ok (i, rest)

/-- Every byte sequence has one reading: what the decoder reads is the encoding of the instruction it answers. That this
holds of the undocumented duplicates, which the spec makes NOP, JMP, RET and CALL (30_encoding.md R69, R70), is the
model's choice to give each a constructor of its own (log entry 14). -/
def Obligations.EncodeUndoesDecode : Prop :=
  ∀ (bytes rest : List Byte) (i : Instr), decode bytes = .ok (i, rest) → bytes = encode i ++ rest

/-- The decoder answers an instruction exactly when the opcode and all its operand bytes are there: no byte value is
rejected (30_encoding.md R60, R72). -/
def Obligations.DecodeFailsOnlyOnMissingBytes : Prop :=
  ∀ bytes : List Byte, (∃ i rest, decode bytes = .ok (i, rest)) ↔
    ∃ op rest, bytes = op :: rest ∧ (lookup op).length ≤ rest.length + 1

/-- Words written out from the spec's encodings, one of each format and family, decode to their instructions; the last and
0xED are duplicates with constructors of their own (log entry 14). -/
def Obligations.SampleWordsDecode : Prop :=
  decode [0b01000001] = .ok (.movBC, []) ∧
  decode [0b00110110, 0xFF] = .ok (.mviM 0xFF, []) ∧
  decode [0b00110001, 0xEF, 0xBE] = .ok (.lxiSP 0xBEEF, []) ∧
  decode [0b10011101] = .ok (.sbbL, []) ∧
  decode [0b11001110, 0x42] = .ok (.aci 0x42, []) ∧
  decode [0b00111001] = .ok (.dadSP, []) ∧
  decode [0b10111110] = .ok (.cmpM, []) ∧
  decode [0b00011111] = .ok (.rar, []) ∧
  decode [0b11111010, 0x00, 0x20] = .ok (.jm 0x2000, []) ∧
  decode [0b11011111] = .ok (.rst3, []) ∧
  decode [0b11101101, 0x34, 0x12] = .ok (.callED 0x1234, []) ∧
  decode [0b11110001] = .ok (.popPSW, []) ∧
  decode [0b11010011, 0x02] = .ok (.outPort 0x02, []) ∧
  decode [0b01110110] = .ok (.hlt, []) ∧
  decode [0b00111000] = .ok (.nop38, [])

/-- The length of every opcode (30_encoding.md R74). -/
def Obligations.OpcodeLengths : Prop :=
  ∀ op : Byte, (lookup op).length =
    if op ∈ ([0x01, 0x11, 0x21, 0x31, 0x22, 0x2A, 0x32, 0x3A,
        0xC2, 0xCA, 0xD2, 0xDA, 0xE2, 0xEA, 0xF2, 0xFA, 0xC3, 0xCB,
        0xC4, 0xCC, 0xD4, 0xDC, 0xE4, 0xEC, 0xF4, 0xFC, 0xCD, 0xDD, 0xED, 0xFD] : List Byte) then 3
    else if op ∈ ([0x06, 0x0E, 0x16, 0x1E, 0x26, 0x2E, 0x36, 0x3E,
        0xC6, 0xCE, 0xD6, 0xDE, 0xE6, 0xEE, 0xF6, 0xFE, 0xD3, 0xDB] : List Byte) then 2
    else 1

/-- The flags every opcode declares (30_encoding.md R75): the accumulator operations, DAA and POP PSW all five, INR and
DCR Z, S, P, AC, DAD, the rotates, STC and CMC CY, every other opcode none. -/
def Obligations.DeclaredFlags : Prop :=
  ∀ op : Byte, (lookup op).flags =
    if op.toNat / 64 = 2 ∨ (op.toNat / 64 = 3 ∧ op.toNat % 8 = 6) ∨ op = 0x27 ∨ op = 0xF1 then [.z, .s, .p, .cy, .ac]
    else if op.toNat / 64 = 0 ∧ (op.toNat % 8 = 4 ∨ op.toNat % 8 = 5) then [.z, .s, .p, .ac]
    else if op ∈ ([0x09, 0x19, 0x29, 0x39, 0x07, 0x0F, 0x17, 0x1F, 0x37, 0x3F] : List Byte) then [.cy]
    else []

/-! Registers, flags, memory. -/

/-- The pairs BC, DE, HL are their two bytes, high byte first, and a write to a pair is read back from it and from no
other pair (10_state.md R12). -/
def Obligations.PairsAreViewsOfTheirBytes : Prop :=
  ∀ (s : State) (p q : Pair) (v : Word),
    s.bc.toNat = s.regs.b.toNat * 256 + s.regs.c.toNat ∧
    s.de.toNat = s.regs.d.toNat * 256 + s.regs.e.toNat ∧
    s.hl.toNat = s.regs.h.toNat * 256 + s.regs.l.toNat ∧
    (s.setPair p v).pair q = (if q = p then v else s.pair q) ∧
    (s.setBc v).regs.b = v.extractLsb' 8 8 ∧ (s.setBc v).regs.c = v.extractLsb' 0 8 ∧
    (s.setDe v).regs.d = v.extractLsb' 8 8 ∧ (s.setDe v).regs.e = v.extractLsb' 0 8 ∧
    (s.setHl v).regs.h = v.extractLsb' 8 8 ∧ (s.setHl v).regs.l = v.extractLsb' 0 8

/-- The five setters, each writing one flag (40_condition_codes.md R80 to R84). -/
def Obligations.SettersWriteOneFlag : Prop :=
  ∀ (f : Flags) (result width aLo bLo cin : Nat),
    f.setZero result = { f with z := decide (BitVec.ofNat 8 result = 0) } ∧
    f.setSign result = { f with s := (BitVec.ofNat 8 result).getLsbD 7 } ∧
    f.setParity result = { f with p := evenParity (BitVec.ofNat 8 result) } ∧
    f.setCarry result width = { f with cy := decide (2 ^ width ≤ result) } ∧
    f.setAuxCarry aLo bLo cin = { f with ac := decide (16 ≤ aLo + bLo + cin) }

/-- The eight conditions, in the order of their codes (40_condition_codes.md R90). -/
def Obligations.BranchConditions : Prop :=
  ∀ f : Flags,
    ([.nz, .z, .nc, .c, .po, .pe, .p, .m] : List Cond).map f.cond = [!f.z, f.z, !f.cy, f.cy, !f.p, f.p, !f.s, f.s] ∧
    ([.nz, .z, .nc, .c, .po, .pe, .p, .m] : List Cond).map Cond.code = [0, 1, 2, 3, 4, 5, 6, 7]

/-- The flag byte, bit by bit; unpacking undoes packing; packing an unpacked byte puts 0, 0 and 1 in bits 5, 3 and 1
(10_state.md R17). -/
def Obligations.FlagByteLayout : Prop :=
  (∀ f : Flags, ([7, 6, 5, 4, 3, 2, 1, 0] : List Nat).map f.toByte.getLsbD =
      [f.s, f.z, false, f.ac, false, f.p, true, f.cy] ∧ Flags.ofByte f.toByte = f) ∧
  (∀ v : Byte, Flags.ofByte v =
      { z := v.getLsbD 6, s := v.getLsbD 7, p := v.getLsbD 2, cy := v.getLsbD 0, ac := v.getLsbD 4 } ∧
    (Flags.ofByte v).toByte = (v &&& 0xD7) ||| 0x02)

/-- A 16-bit store puts the low byte at the address and the high byte at the next one modulo 65,536, reads back whole,
and changes no other byte (20_memory.md R44, R42). -/
def Obligations.WordsAreLittleEndian : Prop :=
  ∀ (s : State) (a v : Word), s.mem.wf = true →
    (s.writeWord a v).readByte a = lowByte v ∧
    (s.writeWord a v).readByte (a + 1) = highByte v ∧
    (s.writeWord a v).readWord a = v ∧
    ∀ x : Word, x ≠ a → x ≠ a + 1 → (s.writeWord a v).readByte x = s.readByte x

/-- A pushed word lies high byte at SP - 1, low byte at SP - 2, SP goes down by 2 modulo 65,536, and a pop returns the
word and SP (20_memory.md R46). -/
def Obligations.PopUndoesPush : Prop :=
  ∀ (s : State) (v : Word), s.mem.wf = true →
    (s.push16 v).sp = s.sp - 2 ∧
    (s.push16 v).readByte (s.sp - 1) = highByte v ∧
    (s.push16 v).readByte (s.sp - 2) = lowByte v ∧
    (∀ x : Word, x ≠ s.sp - 1 → x ≠ s.sp - 2 → (s.push16 v).readByte x = s.readByte x) ∧
    (s.push16 v).top16 = v ∧
    (s.push16 v).drop16.sp = s.sp

/-- Memories in the canonical form that read alike at every address are equal (log entry 2). -/
def Obligations.CanonicalMemoryIsUnique : Prop :=
  ∀ m n : Memory, m.wf = true → n.wf = true → (∀ a : Word, m.read a.toNat = n.read a.toNat) → m = n

/-! The step. -/

/-- Where the bytes at PC decode to an instruction, the machine is running below PROG_END and the build has the
opcode's handler, a step is exec of that instruction; exec includes the advance of PC (41_sequencer.md R100 to R106). -/
def Obligations.StepRunsTheInstructionAtPc : Prop :=
  ∀ (s : State) (i : Instr) (rest : List Byte),
    s.run = .running → s.pc.toNat < s.build.progEnd → s.readByte s.pc ∉ s.build.unimplemented →
    decode [s.readByte s.pc, s.readByte (s.pc + 1), s.readByte (s.pc + 2)] = .ok (i, rest) →
    step s = exec i s

/-- An opcode without a handler in this build faults: run becomes Faulted with the reason, the address and the byte,
and nothing else changes (41_sequencer.md R103; 60_exceptions.md R271). That this is a next state is log entry 7. -/
def Obligations.OpcodeWithoutHandlerFaults : Prop :=
  ∀ s : State, s.run = .running → s.pc.toNat < s.build.progEnd → s.readByte s.pc ∈ s.build.unimplemented →
    step s = .next { s with
      run := .faulted { reason := .unimplementedOpcode, addr := s.pc, byte := s.readByte s.pc } } ∧
    FaultReason.unimplementedOpcode.text = "unimplemented opcode"

/-- At the end of the program a step changes nothing and the status says so (41_sequencer.md R101; that the model
answers a next state there is log entry 5). -/
def Obligations.EndOfProgramChangesNothing : Prop :=
  ∀ s : State, s.run = .running → s.build.progEnd ≤ s.pc.toNat → step s = .next s ∧ s.status = .endOfProgram

/-- Halted and Faulted: step is not enabled (the model's named stops, log entry 6), an interrupt changes nothing, and an
event that leads to another state is a reset (41_sequencer.md R111, R112). -/
def Obligations.StoppedStatesAreLeftOnlyByReset : Prop :=
  ∀ s : State,
    (s.run = .halted → step s = .fault .stepWhileHalted) ∧
    (s.goneWrong → step s = .fault .stepWhileFaulted) ∧
    (s.run = .halted ∨ s.goneWrong →
      ∀ (e : HostEvent) (t : State), s.react e = .next t → (∃ p, e = .reset p) ∨ ((∃ n, e = .irq n) ∧ t = s))

/-- Every instruction, on every state, answers a next state: "A handler completes entirely" (41_sequencer.md R105;
40_condition_codes.md R92; 60_exceptions.md R272). Two clauses are the model's choices and no rule of the spec: that IN
and OUT complete in every state assumes that a port handler always returns (log entry 10; R49 lets it block), and exec
is defined in states that are not Running too (log entry 15). -/
def Obligations.EveryInstructionCompletes : Prop :=
  ∀ (i : Instr) (s : State), ∃ t : State, exec i s = .next t

/-- The run states a step of a running machine leads to (10_state.md R19): Halted exactly when it executes HLT (0x76),
Faulted exactly when the build lacks the opcode's handler. That it always answers a next state is the model's own
reading: at the end of the program, where R100 says the step is not enabled, by log entry 5; on a missing handler by log
entry 7; in IN and OUT, whose port handler always returns, by log entry 10. -/
def Obligations.RunningStepLeadsTo : Prop :=
  ∀ s : State, s.run = .running → ∃ t : State, step s = .next t ∧
    (t.run = .halted ↔
      s.pc.toNat < s.build.progEnd ∧ s.readByte s.pc ∉ s.build.unimplemented ∧ s.readByte s.pc = 0x76) ∧
    (t.goneWrong ↔ s.pc.toNat < s.build.progEnd ∧ s.readByte s.pc ∈ s.build.unimplemented)

/-! Invariants. -/

/-- State.reset meets the invariant, and a reset of it leaves it again, without a reload and with the load of the default
setup: RESET_REGS all zero (log entry 1), no image and so PROG_END 0 (log entry 4). -/
def Obligations.ResetMeetsInv : Prop :=
  State.reset.Inv ∧
  State.reset.react (.reset none) = .next State.reset ∧
  State.reset.react (.reset (some {})) = .next State.reset

/-- Every step keeps the invariant: memory in canonical form (log entry 2), PROG_END, held in State by log entry 3, in
range, a fault record precise. -/
def Obligations.StepKeepsInv : Prop :=
  ∀ s t : State, s.Inv → step s = .next t → t.Inv

/-- Every event of the host keeps the invariant (log entries 2 and 3): a step, an interrupt request, a reset without a
reload or with the load of any setup, which is the model's one event for both (log entry 12). -/
def Obligations.HostEventsKeepInv : Prop :=
  ∀ (s t : State) (e : HostEvent), s.Inv → s.react e = .next t → t.Inv

/-! Whole-machine frames: what no instruction but the named ones changes. -/

/-- PC advances by the declared length for every instruction that is no control transfer, and for a conditional
transfer whose condition is false (41_sequencer.md R106). -/
def Obligations.PcAdvancesByTheLength : Prop :=
  (∀ (i : Instr) (s t : State), transfers i = false → exec i s = .next t → t.pc = s.pc + BitVec.ofNat 16 i.length) ∧
  (∀ (cond : Cond) (a16 : Word) (s : State), s.flags.cond cond = false →
    exec (.jumpIf cond a16) s = .next { s with pc := s.pc + 3 } ∧
    exec (.callIf cond a16) s = .next { s with pc := s.pc + 3 } ∧
    exec (.retIf cond) s = .next { s with pc := s.pc + 1 })

/-- A flag that an instruction's opcode definition does not declare keeps its value (40_condition_codes.md R85;
30_encoding.md R75). -/
def Obligations.UndeclaredFlagsAreKept : Prop :=
  ∀ (i : Instr) (s t : State) (n : FlagName), n ∉ i.flags → exec i s = .next t → flag t.flags n = flag s.flags n

/-- A general register outside an instruction's destination keeps its value. -/
def Obligations.OtherRegistersAreKept : Prop :=
  ∀ (i : Instr) (s t : State) (r : Reg), r ∉ destinations i.opcode → exec i s = .next t → t.regs.get r = s.regs.get r

/-- SP is written by the stack, call, return and restart instructions, `LXI SP`, `INX SP`, `DCX SP` and `SPHL` only
(10_state.md R15). -/
def Obligations.StackPointerIsKept : Prop :=
  ∀ (i : Instr) (s t : State), writesSp i = false → exec i s = .next t → t.sp = s.sp

/-- Every byte of memory outside the addresses an instruction stores to reads as before; an instruction that stores
nothing changes no byte. -/
def Obligations.MemoryIsKeptOutsideTheStore : Prop :=
  ∀ (i : Instr) (s t : State) (a : Word), a ∉ storedAt s i → exec i s = .next t → t.readByte a = s.readByte a

/-- No instruction changes the build; only EI and DI change IE; only HLT changes the run state; only IN and OUT touch the
port boundary (10_state.md R22, R18, R19; 20_memory.md R49). The fields `build` and `ports` are the model's (log entries
3 and 9). -/
def Obligations.ControlStateIsKept : Prop :=
  ∀ (i : Instr) (s t : State), exec i s = .next t →
    t.build = s.build ∧
    t.ie = (if i = .ei then true else if i = .di then false else s.ie) ∧
    ((∀ p, i ≠ .inPort p) → (∀ p, i ≠ .outPort p) → t.ports = s.ports) ∧
    t.run = if i = .hlt then .halted else s.run

/-! Data transfer (42_data_transfer.md). -/

/-- MOV r1,r2, MOV r,M and MOV M,r (R120, R121, R122): 49, 7 and 7 encodings. -/
def Obligations.MovMovesOneByte : Prop :=
  ∀ (s : State) (dst r : Reg),
    encode (.movRR dst r) = [opcodeBits 0b01 dst.code r.code] ∧
    exec (.movRR dst r) s = .next { s with regs := s.regs.set dst (s.regs.get r), pc := s.pc + 1 } ∧
    encode (.movRM dst) = [opcodeBits 0b01 dst.code 0b110] ∧
    exec (.movRM dst) s = .next { s with regs := s.regs.set dst (s.readByte s.hl), pc := s.pc + 1 } ∧
    encode (.movMR r) = [opcodeBits 0b01 0b110 r.code] ∧
    exec (.movMR r) s = .next { s with mem := s.mem.write s.hl.toNat (s.regs.get r), pc := s.pc + 1 }

/-- MVI r, MVI M and LXI (R123, R124, R125): the immediate to a register, to the byte at HL, to a pair. -/
def Obligations.ImmediateLoads : Prop :=
  ∀ (s : State) (dst : Reg) (d8 : Byte) (b2 b3 : Byte),
    encode (.mviR dst d8) = [opcodeBits 0b00 dst.code 0b110, d8] ∧
    exec (.mviR dst d8) s = .next { s with regs := s.regs.set dst d8, pc := s.pc + 2 } ∧
    encode (.mviM d8) = [0x36, d8] ∧
    exec (.mviM d8) s = .next { s with mem := s.mem.write s.hl.toNat d8, pc := s.pc + 2 } ∧
    (∀ p : Pair, encode (.lxi p (wordOf b3 b2)) = [opcodePair 0b00 p.code 0b0001, b2, b3]) ∧
    exec (.lxi .bc (wordOf b3 b2)) s = .next { s with regs := { s.regs with c := b2, b := b3 }, pc := s.pc + 3 } ∧
    exec (.lxi .de (wordOf b3 b2)) s = .next { s with regs := { s.regs with e := b2, d := b3 }, pc := s.pc + 3 } ∧
    exec (.lxi .hl (wordOf b3 b2)) s = .next { s with regs := { s.regs with l := b2, h := b3 }, pc := s.pc + 3 } ∧
    exec (.lxi .sp (wordOf b3 b2)) s = .next { s with sp := (b3 ++ b2 : Word), pc := s.pc + 3 }

/-- LDA, STA, LHLD, SHLD, LDAX, STAX (R126 to R131). -/
def Obligations.DirectAndIndirectLoadsAndStores : Prop :=
  ∀ (s : State) (a16 : Word),
    encode (.lda a16) = [0x3A, lowByte a16, highByte a16] ∧
    exec (.lda a16) s = .next { s with regs := { s.regs with a := s.readByte a16 }, pc := s.pc + 3 } ∧
    encode (.sta a16) = [0x32, lowByte a16, highByte a16] ∧
    exec (.sta a16) s = .next { s with mem := s.mem.write a16.toNat s.regs.a, pc := s.pc + 3 } ∧
    encode (.lhld a16) = [0x2A, lowByte a16, highByte a16] ∧
    exec (.lhld a16) s = .next { s with
      regs := { s.regs with l := s.readByte a16, h := s.readByte (a16 + 1) }, pc := s.pc + 3 } ∧
    encode (.shld a16) = [0x22, lowByte a16, highByte a16] ∧
    exec (.shld a16) s = .next { s with
      mem := (s.mem.write a16.toNat s.regs.l).write (a16 + 1).toNat s.regs.h, pc := s.pc + 3 } ∧
    (∀ p : IndexPair, encode (.ldax p) = [opcodePair 0b00 p.code 0b1010] ∧
      encode (.stax p) = [opcodePair 0b00 p.code 0b0010]) ∧
    exec (.ldax .bc) s = .next { s with regs := { s.regs with a := s.readByte s.bc }, pc := s.pc + 1 } ∧
    exec (.ldax .de) s = .next { s with regs := { s.regs with a := s.readByte s.de }, pc := s.pc + 1 } ∧
    exec (.stax .bc) s = .next { s with mem := s.mem.write s.bc.toNat s.regs.a, pc := s.pc + 1 } ∧
    exec (.stax .de) s = .next { s with mem := s.mem.write s.de.toNat s.regs.a, pc := s.pc + 1 }

/-! Arithmetic (43_arithmetic.md). -/

/-- ADD, ADC with a register or M, ADI, ACI (R140 to R145): the sum modulo 256 and its five flags. -/
def Obligations.AdditionToA : Prop :=
  ∀ (s : State) (x : Src) (d8 : Byte),
    encode (.alu .add x) = [opcodeBits 0b10 0b000 x.code] ∧
    exec (.alu .add x) s = .next (afterAdd s (s.source x) false 1) ∧
    encode (.alu .adc x) = [opcodeBits 0b10 0b001 x.code] ∧
    exec (.alu .adc x) s = .next (afterAdd s (s.source x) s.flags.cy 1) ∧
    encode (.adi d8) = [0xC6, d8] ∧
    exec (.adi d8) s = .next (afterAdd s d8 false 2) ∧
    encode (.aci d8) = [0xCE, d8] ∧
    exec (.aci d8) s = .next (afterAdd s d8 s.flags.cy 2)

/-- SUB, SBB with a register or M, SUI, SBI (R146 to R151): the difference modulo 256 and its five flags. -/
def Obligations.SubtractionFromA : Prop :=
  ∀ (s : State) (x : Src) (d8 : Byte),
    encode (.alu .sub x) = [opcodeBits 0b10 0b010 x.code] ∧
    exec (.alu .sub x) s = .next (afterSub s (s.source x) false 1) ∧
    encode (.alu .sbb x) = [opcodeBits 0b10 0b011 x.code] ∧
    exec (.alu .sbb x) s = .next (afterSub s (s.source x) s.flags.cy 1) ∧
    encode (.sui d8) = [0xD6, d8] ∧
    exec (.sui d8) s = .next (afterSub s d8 false 2) ∧
    encode (.sbi d8) = [0xDE, d8] ∧
    exec (.sbi d8) s = .next (afterSub s d8 s.flags.cy 2)

/-- INR and DCR of a register or M (R152 to R155): CY is not written. -/
def Obligations.IncrementAndDecrement : Prop :=
  ∀ (s : State) (r : Reg),
    encode (.inr (.reg r)) = [opcodeBits 0b00 r.code 0b100] ∧
    exec (.inr (.reg r)) s = .next { s with
      regs := s.regs.set r (s.regs.get r + 1)
      flags := resultFlags (s.regs.get r + 1) s.flags.cy (decide ((s.regs.get r).toNat % 16 = 15))
      pc := s.pc + 1 } ∧
    encode (.inr .mem) = [0x34] ∧
    exec (.inr .mem) s = .next { s with
      mem := s.mem.write s.hl.toNat (s.readByte s.hl + 1)
      flags := resultFlags (s.readByte s.hl + 1) s.flags.cy (decide ((s.readByte s.hl).toNat % 16 = 15))
      pc := s.pc + 1 } ∧
    encode (.dcr (.reg r)) = [opcodeBits 0b00 r.code 0b101] ∧
    exec (.dcr (.reg r)) s = .next { s with
      regs := s.regs.set r (s.regs.get r - 1)
      flags := resultFlags (s.regs.get r - 1) s.flags.cy (decide ((s.regs.get r).toNat % 16 ≠ 0))
      pc := s.pc + 1 } ∧
    encode (.dcr .mem) = [0x35] ∧
    exec (.dcr .mem) s = .next { s with
      mem := s.mem.write s.hl.toNat (s.readByte s.hl - 1)
      flags := resultFlags (s.readByte s.hl - 1) s.flags.cy (decide ((s.readByte s.hl).toNat % 16 ≠ 0))
      pc := s.pc + 1 }

/-- INX, DCX (R156, R157): the pair plus or minus 1 modulo 65,536, no flag. DAD (R158): HL plus the pair modulo 65,536, CY
from the 16-bit operands, the other flags keep their values. -/
def Obligations.PairArithmetic : Prop :=
  ∀ (s : State) (p : Pair),
    encode (.inx p) = [opcodePair 0b00 p.code 0b0011] ∧
    exec (.inx p) s = .next { s.setPair p (s.pair p + 1) with pc := s.pc + 1 } ∧
    encode (.dcx p) = [opcodePair 0b00 p.code 0b1011] ∧
    exec (.dcx p) s = .next { s.setPair p (s.pair p - 1) with pc := s.pc + 1 } ∧
    encode (.dad p) = [opcodePair 0b00 p.code 0b1001] ∧
    exec (.dad p) s = .next { s with
      regs := { s.regs with h := highByte (s.hl + s.pair p), l := lowByte (s.hl + s.pair p) }
      flags := { s.flags with cy := decide (s.hl.toNat + (s.pair p).toNat > 0xFFFF) }
      pc := s.pc + 1 }

/-- DAA (R159). -/
def Obligations.DecimalAdjust : Prop :=
  ∀ s : State,
    let corr := decimalCorrection s.regs.a s.flags
    encode .daa = [0x27] ∧
    exec .daa s = .next { s with
      regs := { s.regs with a := s.regs.a + BitVec.ofNat 8 corr.2 }
      flags := resultFlags (s.regs.a + BitVec.ofNat 8 corr.2) (s.flags.cy || corr.1)
        (decide (s.regs.a.toNat % 16 + corr.2 % 16 > 0xF))
      pc := s.pc + 1 }

/-- DAA after an addition of two packed decimal numbers below 100 leaves their decimal sum, CY its hundreds
("29 + 49 = 78 in decimal", R159). -/
def Obligations.DaaMakesDecimalAddition : Prop :=
  ∀ (s t u : State) (x y : Nat), x < 100 → y < 100 →
    s.regs.a = BitVec.ofNat 8 (16 * (x / 10) + x % 10) →
    exec (.adi (BitVec.ofNat 8 (16 * (y / 10) + y % 10))) s = .next t → exec .daa t = .next u →
    u.regs.a = BitVec.ofNat 8 (16 * ((x + y) % 100 / 10) + (x + y) % 10) ∧ u.flags.cy = decide (x + y ≥ 100)

/-- DCR after INR of the same register or of M restores its value (40_condition_codes.md R91, the law of DOC §8). -/
def Obligations.DcrUndoesInr : Prop :=
  ∀ (s t u : State) (x : Src), s.mem.wf = true →
    exec (.inr x) s = .next t → exec (.dcr x) t = .next u → u.source x = s.source x

/-! Logical operations (44_logical.md). -/

/-- ANA, XRA, ORA with a register or M, ANI, XRI, ORI (R170 to R178): CY 0; AC bit 3 of the OR of the operands for the
ANDs, 0 for the others. -/
def Obligations.BitwiseOnA : Prop :=
  ∀ (s : State) (x : Src) (d8 : Byte),
    encode (.alu .ana x) = [opcodeBits 0b10 0b100 x.code] ∧
    exec (.alu .ana x) s =
      .next (afterLogic s (s.regs.a &&& s.source x) ((s.regs.a ||| s.source x).getLsbD 3) 1) ∧
    encode (.ani d8) = [0xE6, d8] ∧
    exec (.ani d8) s = .next (afterLogic s (s.regs.a &&& d8) ((s.regs.a ||| d8).getLsbD 3) 2) ∧
    encode (.alu .xra x) = [opcodeBits 0b10 0b101 x.code] ∧
    exec (.alu .xra x) s = .next (afterLogic s (s.regs.a ^^^ s.source x) false 1) ∧
    encode (.xri d8) = [0xEE, d8] ∧
    exec (.xri d8) s = .next (afterLogic s (s.regs.a ^^^ d8) false 2) ∧
    encode (.alu .ora x) = [opcodeBits 0b10 0b110 x.code] ∧
    exec (.alu .ora x) s = .next (afterLogic s (s.regs.a ||| s.source x) false 1) ∧
    encode (.ori d8) = [0xF6, d8] ∧
    exec (.ori d8) s = .next (afterLogic s (s.regs.a ||| d8) false 2)

/-- CMP with a register or M, CPI (R179 to R181): the flags of the subtraction, A kept. -/
def Obligations.CompareWithA : Prop :=
  ∀ (s : State) (x : Src) (d8 : Byte),
    encode (.alu .cmp x) = [opcodeBits 0b10 0b111 x.code] ∧
    exec (.alu .cmp x) s = .next (afterCompare s (s.source x) 1) ∧
    encode (.cpi d8) = [0xFE, d8] ∧
    exec (.cpi d8) s = .next (afterCompare s d8 2)

/-- RLC, RRC, RAL, RAR (R182 to R185), bit by bit; only A and CY change. -/
def Obligations.RotatesMoveOneBit : Prop :=
  ∀ s : State, ∃ l r lc rc : Byte,
    ([.rlc, .rrc, .ral, .rar] : List Instr).map encode = [[0x07], [0x0F], [0x17], [0x1F]] ∧
    exec .rlc s = .next { s with
      regs := { s.regs with a := l }, flags := { s.flags with cy := s.regs.a.getLsbD 7 }, pc := s.pc + 1 } ∧
    exec .rrc s = .next { s with
      regs := { s.regs with a := r }, flags := { s.flags with cy := s.regs.a.getLsbD 0 }, pc := s.pc + 1 } ∧
    exec .ral s = .next { s with
      regs := { s.regs with a := lc }, flags := { s.flags with cy := s.regs.a.getLsbD 7 }, pc := s.pc + 1 } ∧
    exec .rar s = .next { s with
      regs := { s.regs with a := rc }, flags := { s.flags with cy := s.regs.a.getLsbD 0 }, pc := s.pc + 1 } ∧
    l.getLsbD 0 = s.regs.a.getLsbD 7 ∧ lc.getLsbD 0 = s.flags.cy ∧
    r.getLsbD 7 = s.regs.a.getLsbD 0 ∧ rc.getLsbD 7 = s.flags.cy ∧
    ∀ i < 7, l.getLsbD (i + 1) = s.regs.a.getLsbD i ∧ lc.getLsbD (i + 1) = s.regs.a.getLsbD i ∧
      r.getLsbD i = s.regs.a.getLsbD (i + 1) ∧ rc.getLsbD i = s.regs.a.getLsbD (i + 1)

/-- "Eight RLCs restore A"; "a 9-bit rotation; nine RALs restore A and CY" (R182, R184). -/
def Obligations.RotatesHaveTheirPeriods : Prop :=
  ∀ s : State,
    (∃ t, repeated .rlc 8 s = some t ∧ t.regs = s.regs) ∧
    (∃ t, repeated .rrc 8 s = some t ∧ t.regs = s.regs) ∧
    (∃ t, repeated .ral 9 s = some t ∧ t.regs = s.regs ∧ t.flags = s.flags) ∧
    (∃ t, repeated .rar 9 s = some t ∧ t.regs = s.regs ∧ t.flags = s.flags)

/-- CMA, CMC, STC (R186 to R188). -/
def Obligations.ComplementAndCarry : Prop :=
  ∀ s : State,
    ([.cma, .cmc, .stc] : List Instr).map encode = [[0x2F], [0x3F], [0x37]] ∧
    exec .cma s = .next { s with regs := { s.regs with a := 255 - s.regs.a }, pc := s.pc + 1 } ∧
    exec .cmc s = .next { s with flags := { s.flags with cy := !s.flags.cy }, pc := s.pc + 1 } ∧
    exec .stc s = .next { s with flags := { s.flags with cy := true }, pc := s.pc + 1 }

/-! Branches (45_branch.md). -/

/-- JMP and the eight conditional jumps (R200 to R208). -/
def Obligations.Jumps : Prop :=
  ∀ (s : State) (a16 : Word),
    let jumpIf := fun (taken : Bool) => Host.Outcome.next (φ := Fault) (ρ := Refusal)
      { s with pc := if taken then a16 else s.pc + 3 }
    ([.jmp a16, .jnz a16, .jz a16, .jnc a16, .jc a16, .jpo a16, .jpe a16, .jp a16, .jm a16] : List Instr).map encode =
      ([0xC3, 0xC2, 0xCA, 0xD2, 0xDA, 0xE2, 0xEA, 0xF2, 0xFA] : List Byte).map (fun op => [op, lowByte a16, highByte a16]) ∧
    exec (.jmp a16) s = jumpIf true ∧
    exec (.jnz a16) s = jumpIf (!s.flags.z) ∧
    exec (.jz a16) s = jumpIf s.flags.z ∧
    exec (.jnc a16) s = jumpIf (!s.flags.cy) ∧
    exec (.jc a16) s = jumpIf s.flags.cy ∧
    exec (.jpo a16) s = jumpIf (!s.flags.p) ∧
    exec (.jpe a16) s = jumpIf s.flags.p ∧
    exec (.jp a16) s = jumpIf (!s.flags.s) ∧
    exec (.jm a16) s = jumpIf s.flags.s

/-- CALL and the eight conditional calls (R209 to R217): the return address pushed is PC + 3; not taken, nothing is
pushed. -/
def Obligations.Calls : Prop :=
  ∀ (s : State) (a16 : Word),
    let callIf := fun (taken : Bool) => Host.Outcome.next (φ := Fault) (ρ := Refusal)
      (if taken then pushed s (s.pc + 3) a16 else { s with pc := s.pc + 3 })
    ([.call a16, .cnz a16, .cz a16, .cnc a16, .cc a16, .cpo a16, .cpe a16, .cp a16, .cm a16] : List Instr).map encode =
      ([0xCD, 0xC4, 0xCC, 0xD4, 0xDC, 0xE4, 0xEC, 0xF4, 0xFC] : List Byte).map (fun op => [op, lowByte a16, highByte a16]) ∧
    exec (.call a16) s = callIf true ∧
    exec (.cnz a16) s = callIf (!s.flags.z) ∧
    exec (.cz a16) s = callIf s.flags.z ∧
    exec (.cnc a16) s = callIf (!s.flags.cy) ∧
    exec (.cc a16) s = callIf s.flags.cy ∧
    exec (.cpo a16) s = callIf (!s.flags.p) ∧
    exec (.cpe a16) s = callIf s.flags.p ∧
    exec (.cp a16) s = callIf (!s.flags.s) ∧
    exec (.cm a16) s = callIf s.flags.s

/-- RET and the eight conditional returns (R218 to R226): PC from the two bytes at SP, low byte first; not taken,
nothing is popped. -/
def Obligations.Returns : Prop :=
  ∀ s : State,
    let retIf := fun (taken : Bool) => Host.Outcome.next (φ := Fault) (ρ := Refusal)
      (if taken then { s with pc := (s.readByte (s.sp + 1) ++ s.readByte s.sp : Word), sp := s.sp + 2 }
       else { s with pc := s.pc + 1 })
    ([.ret, .rnz, .rz, .rnc, .rc, .rpo, .rpe, .rp, .rm] : List Instr).map encode =
      [[0xC9], [0xC0], [0xC8], [0xD0], [0xD8], [0xE0], [0xE8], [0xF0], [0xF8]] ∧
    exec .ret s = retIf true ∧
    exec .rnz s = retIf (!s.flags.z) ∧
    exec .rz s = retIf s.flags.z ∧
    exec .rnc s = retIf (!s.flags.cy) ∧
    exec .rc s = retIf s.flags.cy ∧
    exec .rpo s = retIf (!s.flags.p) ∧
    exec .rpe s = retIf s.flags.p ∧
    exec .rp s = retIf (!s.flags.s) ∧
    exec .rm s = retIf s.flags.s

/-- RST n and PCHL (R227, R228). -/
def Obligations.RestartAndPchl : Prop :=
  ∀ (s : State) (n : Fin 8),
    encode (.rst n) = [opcodeBits 0b11 (BitVec.ofFin n) 0b111] ∧
    exec (.rst n) s = .next (pushed s (s.pc + 1) (BitVec.ofNat 16 (8 * n.val))) ∧
    encode .pchl = [0xE9] ∧
    exec .pchl s = .next { s with pc := (s.regs.h ++ s.regs.l : Word) }

/-- The five undocumented duplicates execute as JMP, RET and CALL (R229). -/
def Obligations.DuplicatesExecuteAsTheirInstruction : Prop :=
  ∀ (s : State) (a16 : Word),
    encode (.jmpCB a16) = [0xCB, lowByte a16, highByte a16] ∧
    exec (.jmpCB a16) s = .next { s with pc := a16 } ∧
    encode .retD9 = [0xD9] ∧
    exec .retD9 s = .next { s with pc := (s.readByte (s.sp + 1) ++ s.readByte s.sp : Word), sp := s.sp + 2 } ∧
    ([.callDD a16, .callED a16, .callFD a16] : List Instr).map encode =
      ([0xDD, 0xED, 0xFD] : List Byte).map (fun op => [op, lowByte a16, highByte a16]) ∧
    exec (.callDD a16) s = .next (pushed s (s.pc + 3) a16) ∧
    exec (.callED a16) s = .next (pushed s (s.pc + 3) a16) ∧
    exec (.callFD a16) s = .next (pushed s (s.pc + 3) a16)

/-- A RET right after a CALL, or after a RST, returns to the following instruction with SP and every register and flag
as they were (R209, R218, R227). -/
def Obligations.RetUndoesCall : Prop :=
  ∀ (s : State) (a16 : Word) (n : Fin 8), s.mem.wf = true →
    (∃ t u, exec (.call a16) s = .next t ∧ exec .ret t = .next u ∧
      u.pc = s.pc + 3 ∧ u.sp = s.sp ∧ u.regs = s.regs ∧ u.flags = s.flags) ∧
    (∃ t u, exec (.rst n) s = .next t ∧ exec .ret t = .next u ∧
      u.pc = s.pc + 1 ∧ u.sp = s.sp ∧ u.regs = s.regs ∧ u.flags = s.flags)

/-! Stack, input/output, control (46_stack_io_control.md). -/

/-- PUSH rp and PUSH PSW (R240, R241). -/
def Obligations.PushStoresThePair : Prop :=
  ∀ s : State,
    let push := fun (hi lo : Byte) => Host.Outcome.next (φ := Fault) (ρ := Refusal)
      { s with
        sp := s.sp - 2
        mem := (s.mem.write (s.sp - 1).toNat hi).write (s.sp - 2).toNat lo
        pc := s.pc + 1 }
    ([.pushB, .pushD, .pushH, .pushPSW] : List Instr).map encode = [[0xC5], [0xD5], [0xE5], [0xF5]] ∧
    exec .pushB s = push s.regs.b s.regs.c ∧
    exec .pushD s = push s.regs.d s.regs.e ∧
    exec .pushH s = push s.regs.h s.regs.l ∧
    exec .pushPSW s = push s.regs.a (flagByte s.flags)

/-- POP rp and POP PSW (R242, R243): the low register from SP, the high from SP + 1. -/
def Obligations.PopLoadsThePair : Prop :=
  ∀ s : State,
    let lo := s.readByte s.sp
    let hi := s.readByte (s.sp + 1)
    ([.popB, .popD, .popH, .popPSW] : List Instr).map encode = [[0xC1], [0xD1], [0xE1], [0xF1]] ∧
    exec .popB s = .next { s with regs := { s.regs with c := lo, b := hi }, sp := s.sp + 2, pc := s.pc + 1 } ∧
    exec .popD s = .next { s with regs := { s.regs with e := lo, d := hi }, sp := s.sp + 2, pc := s.pc + 1 } ∧
    exec .popH s = .next { s with regs := { s.regs with l := lo, h := hi }, sp := s.sp + 2, pc := s.pc + 1 } ∧
    exec .popPSW s = .next { s with
      regs := { s.regs with a := hi }
      flags := { s := lo.getLsbD 7, z := lo.getLsbD 6, ac := lo.getLsbD 4, p := lo.getLsbD 2, cy := lo.getLsbD 0 }
      sp := s.sp + 2
      pc := s.pc + 1 }

/-- XCHG (42_data_transfer.md R132), XTHL and SPHL (R244, R245). -/
def Obligations.ExchangesWithHl : Prop :=
  ∀ s : State,
    ([.xchg, .xthl, .sphl] : List Instr).map encode = [[0xEB], [0xE3], [0xF9]] ∧
    exec .xchg s = .next { s with
      regs := { s.regs with h := s.regs.d, d := s.regs.h, l := s.regs.e, e := s.regs.l }, pc := s.pc + 1 } ∧
    exec .xthl s = .next { s with
      regs := { s.regs with l := s.readByte s.sp, h := s.readByte (s.sp + 1) }
      mem := (s.mem.write s.sp.toNat s.regs.l).write (s.sp + 1).toNat s.regs.h
      pc := s.pc + 1 } ∧
    exec .sphl s = .next { s with sp := (s.regs.h ++ s.regs.l : Word), pc := s.pc + 1 }

/-- XCHG, XTHL and CMA done twice restore what they changed (42_data_transfer.md R132; R244; 44_logical.md R186). -/
def Obligations.ExchangesUndoThemselves : Prop :=
  ∀ s : State, s.mem.wf = true →
    (∃ t, repeated .xchg 2 s = some t ∧ t.regs = s.regs) ∧
    (∃ t, repeated .cma 2 s = some t ∧ t.regs = s.regs) ∧
    (∃ t, repeated .xthl 2 s = some t ∧ t.regs = s.regs ∧ ∀ a : Word, t.readByte a = s.readByte a)

/-- IN and OUT (R246, R247): some byte v goes to A and the call is recorded; OUT records A. The model's choices in it: v is
the next byte of the model's input list, else free (log entry 8); the list and the record are the field `ports` (log
entry 9); IN and OUT complete in every state, since a port handler always returns (log entry 10; R49 and R246 let it
block). -/
def Obligations.PortInputAndOutput : Prop :=
  ∀ (s : State) (p : Byte),
    encode (.inPort p) = [0xDB, p] ∧
    (∃ v : Byte, (∀ w rest, s.ports.inputs = w :: rest → v = w) ∧
      exec (.inPort p) s = .next { s with
        regs := { s.regs with a := v }
        ports := { inputs := s.ports.inputs.tail, events := s.ports.events ++ [.input p v] }
        pc := s.pc + 2 }) ∧
    encode (.outPort p) = [0xD3, p] ∧
    exec (.outPort p) s = .next { s with
      ports := { inputs := s.ports.inputs, events := s.ports.events ++ [.output p s.regs.a] }
      pc := s.pc + 2 }

/-- EI, DI, HLT, NOP and its seven duplicates (R248 to R251). Right after EI an interrupt is serviced, right after DI it
is ignored; after HLT no step is enabled and no interrupt is accepted. -/
def Obligations.ControlInstructions : Prop :=
  ∀ s : State,
    ([.ei, .di, .hlt] : List Instr).map encode = [[0xFB], [0xF3], [0x76]] ∧
    exec .ei s = .next { s with ie := true, pc := s.pc + 1 } ∧
    exec .di s = .next { s with ie := false, pc := s.pc + 1 } ∧
    exec .hlt s = .next { s with run := .halted, pc := s.pc + 1 } ∧
    (∀ (t : State) (n : Fin 8), exec .ei s = .next t → t.run = .running → t.pc.toNat < t.build.progEnd →
      (t.irq n).pc = BitVec.ofNat 16 (8 * n.val) ∧ (t.irq n).ie = false) ∧
    (∀ (t : State) (n : Fin 8), exec .di s = .next t → t.irq n = t) ∧
    (∀ (t : State) (n : Fin 8), exec .hlt s = .next t →
      t.irq n = t ∧ (∀ u : State, step t ≠ .next u) ∧ t.status = .halted) ∧
    ([.nop, .nop08, .nop10, .nop18, .nop20, .nop28, .nop30, .nop38] : List Instr).map encode =
      [[0x00], [0x08], [0x10], [0x18], [0x20], [0x28], [0x30], [0x38]] ∧
    ∀ i ∈ ([.nop, .nop08, .nop10, .nop18, .nop20, .nop28, .nop30, .nop38] : List Instr),
      exec i s = .next { s with pc := s.pc + 1 }

/-! Interrupts and reset (60_exceptions.md, 70_reset_and_hazards.md). -/

/-- `irq(n)`: accepted exactly when the machine is running, PC is below PROG_END and IE is 1; then IE is 0, PC is pushed
and PC is 8 x n; otherwise nothing changes (R274, R275). -/
def Obligations.InterruptService : Prop :=
  ∀ (s : State) (n : Fin 8),
    (s.run = .running ∧ s.pc.toNat < s.build.progEnd ∧ s.ie = true →
      s.react (.irq n) = .next { pushed s s.pc (BitVec.ofNat 16 (8 * n.val)) with ie := false }) ∧
    (¬ (s.run = .running ∧ s.pc.toNat < s.build.progEnd ∧ s.ie = true) → s.react (.irq n) = .next s)

/-- After an accepted `irq` a second one at the same boundary is ignored, and a RET goes back to the interrupted
instruction with SP, registers and flags as they were and interrupts still disabled (R276, R278). -/
def Obligations.InterruptReturn : Prop :=
  ∀ (s : State) (m n : Fin 8), s.mem.wf = true →
    s.run = .running → s.pc.toNat < s.build.progEnd → s.ie = true →
    (s.irq m).irq n = s.irq m ∧
    ∃ u, exec .ret (s.irq m) = .next u ∧
      u.pc = s.pc ∧ u.sp = s.sp ∧ u.regs = s.regs ∧ u.flags = s.flags ∧ u.ie = false

/-- Reset from any state, without a reload and with the load of any setup that fits: RESET_REGS in the registers, SP and
flags, PC 0, Running, IE 0, the image at LOAD_BASE and 0x00 in every other byte, no parameter touched but the PROG_END of
a load (70_reset_and_hazards.md R300; 10_state.md R24; 20_memory.md R51). That the parameters stand in State is log
entry 3. -/
def Obligations.ResetLeaves : Prop :=
  ∀ s : State,
    (∃ t, s.react (.reset none) = .next t ∧ renewed s t ∧ t.build = s.build ∧ ∀ a : Word, t.readByte a = 0) ∧
    ∀ p : Setup, p.loadBase.toNat + p.image.length ≤ 65536 → p.programEnd ≤ 65536 →
      ∃ t, s.react (.reset (some p)) = .next t ∧ renewed s t ∧
        t.build = { s.build with progEnd := p.programEnd } ∧
        ∀ a : Word, t.readByte a =
          if p.loadBase.toNat ≤ a.toNat then p.image.getD (a.toNat - p.loadBase.toNat) 0 else 0

/-- Across a reset event the opcodes without a handler and RESET_REGS stay, "not touched by reset"
(70_reset_and_hazards.md R300), and PROG_END stays too without a reload; a load sets it to "base + length(bytes) unless
the host overrides it" (20_memory.md R51; 00_scope.md R5). That the parameters stand in State is log entry 3; that the
record of port calls and the input bytes are kept is log entry 9. -/
def Obligations.ResetKeepsTheParameters : Prop :=
  ∀ (s t : State) (load : Option Setup), s.react (.reset load) = .next t →
    t.build.unimplemented = s.build.unimplemented ∧
    t.build.resetRegs = s.build.resetRegs ∧
    (load = none → t.build.progEnd = s.build.progEnd) ∧
    (∀ p, load = some p → p.progEnd = none → t.build.progEnd = p.loadBase.toNat + p.image.length) ∧
    (∀ p n, load = some p → p.progEnd = some n → t.build.progEnd = n) ∧
    t.ports = s.ports

/-- An image that does not fit in memory, or a PROG_END above 65,536, is refused before the run (20_memory.md R51;
60_exceptions.md R286; the second is log entry 12). -/
def Obligations.UnfitSetupIsRefused : Prop :=
  ∀ (s : State) (p : Setup),
    (p.loadBase.toNat + p.image.length > 65536 → s.react (.reset (some p)) = .refused .imageDoesNotFit) ∧
    (p.loadBase.toNat + p.image.length ≤ 65536 → p.programEnd > 65536 →
      s.react (.reset (some p)) = .refused .progEndOutOfRange)
end

