-- ==== Sys2Proof/Laws/Encoding.lean ====
section
/-! SUPPORT. The opcode byte of each instruction that has operands (30_encoding.md R65 to R70). The opcode of one
without operands is a closed term, which `decide` evaluates. -/

namespace Sys2Proof

@[simp] theorem Instr.opcode_mviB (d8 : Byte) : (Instr.mviB d8).opcode = 0x06 := rfl
@[simp] theorem Instr.opcode_mviC (d8 : Byte) : (Instr.mviC d8).opcode = 0x0E := rfl
@[simp] theorem Instr.opcode_mviD (d8 : Byte) : (Instr.mviD d8).opcode = 0x16 := rfl
@[simp] theorem Instr.opcode_mviE (d8 : Byte) : (Instr.mviE d8).opcode = 0x1E := rfl
@[simp] theorem Instr.opcode_mviH (d8 : Byte) : (Instr.mviH d8).opcode = 0x26 := rfl
@[simp] theorem Instr.opcode_mviL (d8 : Byte) : (Instr.mviL d8).opcode = 0x2E := rfl
@[simp] theorem Instr.opcode_mviA (d8 : Byte) : (Instr.mviA d8).opcode = 0x3E := rfl
@[simp] theorem Instr.opcode_mviM (d8 : Byte) : (Instr.mviM d8).opcode = 0x36 := rfl
@[simp] theorem Instr.opcode_lxiB (d16 : Word) : (Instr.lxiB d16).opcode = 0x01 := rfl
@[simp] theorem Instr.opcode_lxiD (d16 : Word) : (Instr.lxiD d16).opcode = 0x11 := rfl
@[simp] theorem Instr.opcode_lxiH (d16 : Word) : (Instr.lxiH d16).opcode = 0x21 := rfl
@[simp] theorem Instr.opcode_lxiSP (d16 : Word) : (Instr.lxiSP d16).opcode = 0x31 := rfl
@[simp] theorem Instr.opcode_lda (a16 : Word) : (Instr.lda a16).opcode = 0x3A := rfl
@[simp] theorem Instr.opcode_sta (a16 : Word) : (Instr.sta a16).opcode = 0x32 := rfl
@[simp] theorem Instr.opcode_lhld (a16 : Word) : (Instr.lhld a16).opcode = 0x2A := rfl
@[simp] theorem Instr.opcode_shld (a16 : Word) : (Instr.shld a16).opcode = 0x22 := rfl
@[simp] theorem Instr.opcode_adi (d8 : Byte) : (Instr.adi d8).opcode = 0xC6 := rfl
@[simp] theorem Instr.opcode_aci (d8 : Byte) : (Instr.aci d8).opcode = 0xCE := rfl
@[simp] theorem Instr.opcode_sui (d8 : Byte) : (Instr.sui d8).opcode = 0xD6 := rfl
@[simp] theorem Instr.opcode_sbi (d8 : Byte) : (Instr.sbi d8).opcode = 0xDE := rfl
@[simp] theorem Instr.opcode_ani (d8 : Byte) : (Instr.ani d8).opcode = 0xE6 := rfl
@[simp] theorem Instr.opcode_xri (d8 : Byte) : (Instr.xri d8).opcode = 0xEE := rfl
@[simp] theorem Instr.opcode_ori (d8 : Byte) : (Instr.ori d8).opcode = 0xF6 := rfl
@[simp] theorem Instr.opcode_cpi (d8 : Byte) : (Instr.cpi d8).opcode = 0xFE := rfl
@[simp] theorem Instr.opcode_jmp (a16 : Word) : (Instr.jmp a16).opcode = 0xC3 := rfl
@[simp] theorem Instr.opcode_jnz (a16 : Word) : (Instr.jnz a16).opcode = 0xC2 := rfl
@[simp] theorem Instr.opcode_jz (a16 : Word) : (Instr.jz a16).opcode = 0xCA := rfl
@[simp] theorem Instr.opcode_jnc (a16 : Word) : (Instr.jnc a16).opcode = 0xD2 := rfl
@[simp] theorem Instr.opcode_jc (a16 : Word) : (Instr.jc a16).opcode = 0xDA := rfl
@[simp] theorem Instr.opcode_jpo (a16 : Word) : (Instr.jpo a16).opcode = 0xE2 := rfl
@[simp] theorem Instr.opcode_jpe (a16 : Word) : (Instr.jpe a16).opcode = 0xEA := rfl
@[simp] theorem Instr.opcode_jp (a16 : Word) : (Instr.jp a16).opcode = 0xF2 := rfl
@[simp] theorem Instr.opcode_jm (a16 : Word) : (Instr.jm a16).opcode = 0xFA := rfl
@[simp] theorem Instr.opcode_call (a16 : Word) : (Instr.call a16).opcode = 0xCD := rfl
@[simp] theorem Instr.opcode_cnz (a16 : Word) : (Instr.cnz a16).opcode = 0xC4 := rfl
@[simp] theorem Instr.opcode_cz (a16 : Word) : (Instr.cz a16).opcode = 0xCC := rfl
@[simp] theorem Instr.opcode_cnc (a16 : Word) : (Instr.cnc a16).opcode = 0xD4 := rfl
@[simp] theorem Instr.opcode_cc (a16 : Word) : (Instr.cc a16).opcode = 0xDC := rfl
@[simp] theorem Instr.opcode_cpo (a16 : Word) : (Instr.cpo a16).opcode = 0xE4 := rfl
@[simp] theorem Instr.opcode_cpe (a16 : Word) : (Instr.cpe a16).opcode = 0xEC := rfl
@[simp] theorem Instr.opcode_cp (a16 : Word) : (Instr.cp a16).opcode = 0xF4 := rfl
@[simp] theorem Instr.opcode_cm (a16 : Word) : (Instr.cm a16).opcode = 0xFC := rfl
@[simp] theorem Instr.opcode_jmpCB (a16 : Word) : (Instr.jmpCB a16).opcode = 0xCB := rfl
@[simp] theorem Instr.opcode_callDD (a16 : Word) : (Instr.callDD a16).opcode = 0xDD := rfl
@[simp] theorem Instr.opcode_callED (a16 : Word) : (Instr.callED a16).opcode = 0xED := rfl
@[simp] theorem Instr.opcode_callFD (a16 : Word) : (Instr.callFD a16).opcode = 0xFD := rfl
@[simp] theorem Instr.opcode_inPort (p : Byte) : (Instr.inPort p).opcode = 0xDB := rfl
@[simp] theorem Instr.opcode_outPort (p : Byte) : (Instr.outPort p).opcode = 0xD3 := rfl

end Sys2Proof
end

