-- ==== Sys2Proof/Laws/Flags.lean ====
section
/-! SUPPORT. What each flag computation leaves in each flag. -/

namespace Sys2Proof.Machine

@[simp] theorem Flags.zsp_z (n : Nat) (f : Flags) : (f.zsp n).z = decide (n % 256 = 0) := rfl
@[simp] theorem Flags.zsp_s (n : Nat) (f : Flags) : (f.zsp n).s = n.testBit 7 := rfl
@[simp] theorem Flags.zsp_p (n : Nat) (f : Flags) : (f.zsp n).p = decide (popcount8 n % 2 = 0) := rfl
@[simp] theorem Flags.zsp_cy (n : Nat) (f : Flags) : (f.zsp n).cy = f.cy := rfl
@[simp] theorem Flags.zsp_ac (n : Nat) (f : Flags) : (f.zsp n).ac = f.ac := rfl

/-- A number and its low 8 bits have the same number of bits equal to 1 among bits 7:0. -/
theorem popcount8_mod (n : Nat) : popcount8 (n % 256) = popcount8 n := by
  unfold popcount8
  congr 1
  apply List.map_congr_left
  intro i hi
  have hi : i < 8 := List.mem_range.mp hi
  rw [show (256 : Nat) = 2 ^ 8 from rfl, Nat.testBit_mod_two_pow, decide_eq_true hi, Bool.true_and]

/-- `zsp` looks only at the low 8 bits of its result (40_condition_codes.md R86). -/
theorem Flags.zsp_mod (n : Nat) (f : Flags) : f.zsp (n % 256) = f.zsp n := by
  have h7 : (n % 256).testBit 7 = n.testBit 7 := by
    rw [show (256 : Nat) = 2 ^ 8 from rfl, Nat.testBit_mod_two_pow]; rfl
  simp only [Flags.zsp, Flags.setZero, Flags.setSign, Flags.setParity, Nat.mod_mod, popcount8_mod, h7]

/-- The popcount of R82 as a count of bits. -/
theorem popcount8_eq_countP (n : Nat) : popcount8 n = (List.range 8).countP (fun i => n.testBit i) := by
  have h : ∀ l : List Nat, (l.map (fun i => (n.testBit i).toNat)).sum = l.countP (fun i => n.testBit i) := by
    intro l
    induction l with
    | nil => rfl
    | cons i l ih => rw [List.map_cons, List.sum_cons, List.countP_cons, ih]; cases n.testBit i <;> simp [Nat.add_comm]
  exact h (List.range 8)

/-- `zsp` of a number, read off its low byte: Z, S and P in the words of 10_state.md R16. -/
theorem Flags.zsp_eq (n : Nat) (f : Flags) : f.zsp n = { f with
    z := decide (BitVec.ofNat 8 n = 0)
    s := (BitVec.ofNat 8 n).getLsbD 7
    p := decide ((List.range 8).countP (fun i => (BitVec.ofNat 8 n).getLsbD i) % 2 = 0) } := by
  have hz : (n % 256 = 0) ↔ (BitVec.ofNat 8 n = 0) := by simp [← BitVec.toNat_inj]
  have hs : (BitVec.ofNat 8 n).getLsbD 7 = n.testBit 7 := by rw [BitVec.getLsbD_ofNat]; rfl
  have hp : (List.range 8).countP (fun i => (BitVec.ofNat 8 n).getLsbD i) = popcount8 n := by
    rw [popcount8_eq_countP]
    refine List.countP_congr fun i hi => ?_
    rw [BitVec.getLsbD_ofNat, decide_eq_true (List.mem_range.mp hi), Bool.true_and]
  simp only [Flags.zsp, Flags.setZero, Flags.setSign, Flags.setParity, hz, hs, hp]

/-- `add8` (40_condition_codes.md R86): its value and its five flags. -/
theorem add8_eq (a b : Byte) (cin : Bool) (f : Flags) :
    add8 a b cin f = (BitVec.ofNat 8 (a.toNat + b.toNat + cin.toNat),
      { f.zsp (a.toNat + b.toNat + cin.toNat) with
        cy := decide (a.toNat + b.toNat + cin.toNat > 255)
        ac := decide (a.toNat % 16 + b.toNat % 16 + cin.toNat > 15) }) := rfl

/-- `add16` (R89): its value, and CY; the other flags keep their values. -/
theorem add16_eq (x y : Word) (f : Flags) :
    add16 x y f = (BitVec.ofNat 16 (x.toNat + y.toNat), { f with cy := decide (x.toNat + y.toNat > 65535) }) := rfl

/-- `logic_flags` (R88). -/
theorem logicFlags_eq (r : Byte) (ac : Bool) (f : Flags) :
    logicFlags r ac f = { f.zsp r.toNat with cy := false, ac := ac } := rfl

/-- `sub8` (R87): its value and its five flags; CY "iff a < b + bin". -/
theorem sub8_eq (a b : Byte) (bin : Bool) (f : Flags) :
    sub8 a b bin f = (BitVec.ofNat 8 (65536 + a.toNat - (b.toNat + bin.toNat)),
      { f.zsp (65536 + a.toNat - (b.toNat + bin.toNat)) with
        cy := decide (a.toNat < b.toNat + bin.toNat)
        ac := decide (a.toNat % 16 + (15 - b.toNat % 16) + (1 - bin.toNat) > 15) }) := by
  have ha := a.isLt
  have hb := b.isLt
  have hbin : bin.toNat ≤ 1 := Bool.toNat_le bin
  generalize hn : 65536 + a.toNat - (b.toNat + bin.toNat) = n
  have hv : BitVec.ofNat 8 (n % 65536) = BitVec.ofNat 8 n := by
    apply BitVec.eq_of_toNat_eq
    simp only [BitVec.toNat_ofNat]
    omega
  have hz : f.zsp (n % 65536) = f.zsp n := by
    rw [← Flags.zsp_mod, ← Flags.zsp_mod n, Nat.mod_mod_of_dvd n (by decide)]
  have hnot : lowNibble (~~~b) = 15 - b.toNat % 16 := by
    simp only [lowNibble, BitVec.toNat_not]
    omega
  have hcy : n % 65536 > 2 ^ 8 - 1 ↔ a.toNat < b.toNat + bin.toNat := by omega
  simp only [sub8, hn, hv, hz, hnot, Flags.setCarry, Flags.setAuxCarry, decide_eq_decide.mpr hcy]
  rfl

/-- The increment (43_arithmetic.md R152): AC exactly when the low nibble is 15. -/
theorem inc8_eq (v : Byte) (f : Flags) :
    inc8 v f = (v + 1, { f.zsp (v.toNat + 1) with ac := decide (v.toNat % 16 = 15) }) := by
  have hv : BitVec.ofNat 8 (v.toNat + 1) = v + 1 := by
    apply BitVec.eq_of_toNat_eq
    simp
  have hac : v.toNat % 16 + 1 + 0 > 15 ↔ v.toNat % 16 = 15 := by omega
  simp only [inc8, hv]
  exact congrArg (fun ac => (v + 1, { f.zsp (v.toNat + 1) with ac := ac })) (decide_eq_decide.mpr hac)

/-- The decrement (43_arithmetic.md R154): AC exactly when the low nibble is not 0. -/
theorem dec8_eq (v : Byte) (f : Flags) :
    dec8 v f = (v - 1, { f.zsp (v.toNat + 255) with ac := decide (v.toNat % 16 ≠ 0) }) := by
  have hlt := v.isLt
  have hv : BitVec.ofNat 8 ((65536 + v.toNat - 1) % 65536) = v - 1 := by
    apply BitVec.eq_of_toNat_eq
    rw [BitVec.toNat_ofNat, BitVec.toNat_sub, show (1 : Byte).toNat = 1 from rfl]
    omega
  have hz : f.zsp ((65536 + v.toNat - 1) % 65536) = f.zsp (v.toNat + 255) := by
    rw [← Flags.zsp_mod, ← Flags.zsp_mod (v.toNat + 255)]
    congr 1
    omega
  have hac : v.toNat % 16 + 0xE + 1 > 0xF ↔ v.toNat % 16 ≠ 0 := by omega
  simp only [dec8, hv, hz]
  exact congrArg (fun ac => (v - 1, { f.zsp (v.toNat + 255) with ac := ac })) (decide_eq_decide.mpr hac)

/-- DAA (43_arithmetic.md R159): its value and its five flags, for the correction it adds. -/
theorem daa8_eq (a : Byte) (f : Flags) {corr : Nat}
    (h : (if daaLow a f then 0x06 else 0) + (if daaHigh a f then 0x60 else 0) = corr) :
    daa8 a f = (BitVec.ofNat 8 (a.toNat + corr),
      { f.zsp (a.toNat + corr) with
        cy := f.cy || daaHigh a f
        ac := decide (a.toNat % 16 + corr % 16 > 15) }) := by
  subst h
  rfl

/-- INR keeps CY (43_arithmetic.md R152). -/
@[simp] theorem inc8_cy (v : Byte) (f : Flags) : (inc8 v f).2.cy = f.cy := rfl

/-- DCR keeps CY (43_arithmetic.md R154). -/
@[simp] theorem dec8_cy (v : Byte) (f : Flags) : (dec8 v f).2.cy = f.cy := rfl

end Sys2Proof.Machine
end

