-- ==== Sys2Proof/Laws/Memory.lean ====
section
/-! SUPPORT. Reading and writing memory, and the canonical form that every memory operation keeps. -/

namespace Sys2Proof.Machine

@[simp] theorem Memory.read_nil (a : Nat) : Memory.read [] a = unlistedByte := rfl

theorem Memory.read_cons (k a : Nat) (w : Byte) (m : Memory) :
    Memory.read ((k, w) :: m) a = if a = k then w else Memory.read m a := rfl

/-- A cell in front changes no other address. -/
theorem Memory.read_cell_of_ne {a b : Nat} (v : Byte) (m : Memory) (h : b ≠ a) :
    Memory.read (Memory.cell a v m) b = Memory.read m b := by
  unfold Memory.cell
  split
  · rfl
  · simp [Memory.read_cons, h]

/-- A cell in front gives its address the byte, if the address has none further on. -/
theorem Memory.read_cell_self {a : Nat} (v : Byte) {m : Memory} (h : Memory.read m a = unlistedByte) :
    Memory.read (Memory.cell a v m) a = v := by
  unfold Memory.cell
  split
  · next hv => rw [h, hv]
  · simp [Memory.read_cons]

/-- A store changes no other address. -/
theorem Memory.read_write_of_ne (m : Memory) {a b : Nat} (v : Byte) (h : b ≠ a) :
    Memory.read (Memory.write m a v) b = Memory.read m b := by
  induction m with
  | nil => exact Memory.read_cell_of_ne v [] h
  | cons kw m ih =>
    obtain ⟨k, w⟩ := kw
    simp only [Memory.write]
    split
    · exact Memory.read_cell_of_ne v _ h
    · split
      · next hak => subst hak; rw [Memory.read_cell_of_ne v m h, Memory.read_cons, if_neg h]
      · simp only [Memory.read_cons, ih]

theorem Memory.wfFrom_cons {lo k : Nat} {w : Byte} {m : Memory} :
    Memory.wfFrom lo ((k, w) :: m) = true ↔
      lo ≤ k ∧ k < memorySize ∧ w ≠ unlistedByte ∧ Memory.wfFrom (k + 1) m = true := by
  simp [Memory.wfFrom, and_assoc]

/-- The canonical form from an address on is the canonical form from any lower one. -/
theorem Memory.wfFrom_mono {lo lo' : Nat} (h : lo' ≤ lo) {m : Memory} (hm : Memory.wfFrom lo m = true) :
    Memory.wfFrom lo' m = true := by
  cases m with
  | nil => rfl
  | cons kw m =>
    obtain ⟨h1, h2⟩ := Memory.wfFrom_cons.mp hm
    exact Memory.wfFrom_cons.mpr ⟨h.trans h1, h2⟩

/-- An address below all cells has no cell. -/
theorem Memory.read_of_lt {lo a : Nat} {m : Memory} (hm : Memory.wfFrom lo m = true) (h : a < lo) :
    Memory.read m a = unlistedByte := by
  induction m generalizing lo with
  | nil => rfl
  | cons kw m ih =>
    obtain ⟨h1, -, -, h4⟩ := Memory.wfFrom_cons.mp hm
    rw [Memory.read_cons, if_neg (by omega)]
    exact ih h4 (by omega)

/-- In a canonical memory a store is read back. -/
theorem Memory.read_write_self {lo : Nat} {m : Memory} (hm : Memory.wfFrom lo m = true) (a : Nat) (v : Byte) :
    Memory.read (Memory.write m a v) a = v := by
  induction m generalizing lo with
  | nil => exact Memory.read_cell_self v rfl
  | cons kw m ih =>
    obtain ⟨k, w⟩ := kw
    obtain ⟨h1, h2, h3, h4⟩ := Memory.wfFrom_cons.mp hm
    simp only [Memory.write]
    split
    · next hlt =>
      exact Memory.read_cell_self v (Memory.read_of_lt (Memory.wfFrom_cons.mpr ⟨Nat.le_refl k, h2, h3, h4⟩) hlt)
    · split
      · next hak => exact Memory.read_cell_self v (Memory.read_of_lt h4 (by omega))
      · next hne => rw [Memory.read_cons, if_neg hne]; exact ih h4

theorem Memory.wfFrom_cell {lo a : Nat} (v : Byte) {m : Memory} (hlo : lo ≤ a) (ha : a < memorySize)
    (hm : Memory.wfFrom (a + 1) m = true) : Memory.wfFrom lo (Memory.cell a v m) = true := by
  unfold Memory.cell
  split
  · exact Memory.wfFrom_mono (by omega) hm
  · next hv => exact Memory.wfFrom_cons.mpr ⟨hlo, ha, hv, hm⟩

/-- A store keeps the canonical form. -/
theorem Memory.wfFrom_write {lo a : Nat} (v : Byte) {m : Memory} (hlo : lo ≤ a) (ha : a < memorySize)
    (hm : Memory.wfFrom lo m = true) : Memory.wfFrom lo (Memory.write m a v) = true := by
  induction m generalizing lo with
  | nil => exact Memory.wfFrom_cell v hlo ha rfl
  | cons kw m ih =>
    obtain ⟨k, w⟩ := kw
    obtain ⟨h1, h2, h3, h4⟩ := Memory.wfFrom_cons.mp hm
    simp only [Memory.write]
    split
    · next hlt => exact Memory.wfFrom_cell v hlo ha (Memory.wfFrom_cons.mpr ⟨hlt, h2, h3, h4⟩)
    · split
      · next hak => subst hak; exact Memory.wfFrom_cell v hlo ha h4
      · exact Memory.wfFrom_cons.mpr ⟨h1, h2, h3, ih (by omega) h4⟩

theorem Memory.wf_nil : Memory.wf [] = true := rfl

theorem Memory.wf_write {m : Memory} (hm : m.wf = true) (a : Word) (v : Byte) :
    Memory.wf (Memory.write m a.toNat v) = true :=
  Memory.wfFrom_write v (Nat.zero_le _) a.isLt hm

theorem Memory.read_write {m : Memory} (hm : m.wf = true) (a b : Nat) (v : Byte) :
    Memory.read (Memory.write m a v) b = if b = a then v else Memory.read m b := by
  split
  · next h => subst h; exact Memory.read_write_self hm b v
  · next h => exact Memory.read_write_of_ne m v h

/-- The load of an image that fits keeps the canonical form. -/
theorem Memory.wf_load {m : Memory} (hm : m.wf = true) (base : Nat) (bytes : List Byte)
    (hfit : base + bytes.length ≤ memorySize) : Memory.wf (Memory.load m base bytes) = true := by
  induction bytes generalizing m base with
  | nil => exact hm
  | cons b bs ih =>
    simp only [List.length_cons] at hfit
    exact ih (Memory.wfFrom_write b (Nat.zero_le _) (by omega) hm) (base + 1) (by omega)

/-- Every byte after a load: the image's in its range, else as before (20_memory.md R51). -/
theorem Memory.read_load {m : Memory} (hm : m.wf = true) (bytes : List Byte) {base : Nat}
    (hfit : base + bytes.length ≤ memorySize) (a : Nat) :
    Memory.read (Memory.load m base bytes) a =
      if base ≤ a ∧ a < base + bytes.length then bytes.getD (a - base) 0 else Memory.read m a := by
  induction bytes generalizing m base with
  | nil => rw [if_neg (by simp)]; rfl
  | cons b bs ih =>
    simp only [List.length_cons] at hfit ⊢
    have hw : Memory.wf (m.write base b) = true := Memory.wfFrom_write b (Nat.zero_le _) (by omega) hm
    rw [Memory.load, ih hw (by omega), Memory.read_write hm]
    by_cases he : a = base
    · subst he; simp
    · by_cases hin : base + 1 ≤ a ∧ a < base + 1 + bs.length
      · rw [if_pos hin, if_pos (by omega), show a - base = (a - (base + 1)) + 1 by omega, List.getD_cons_succ]
      · rw [if_neg hin, if_neg he, if_neg (by omega)]

end Sys2Proof.Machine
end

