-- ==== Sys2Proof/Laws/State.lean ====
section
/-! SUPPORT. What each update of State does to each field, one lemma per field per update. -/

namespace Sys2Proof.Machine

@[simp] theorem State.setReg_regs (s : State) (r : Reg) (v : Byte) : (s.setReg r v).regs = s.regs.set r v := rfl
@[simp] theorem State.setReg_pc (s : State) (r : Reg) (v : Byte) : (s.setReg r v).pc = s.pc := rfl
@[simp] theorem State.setReg_sp (s : State) (r : Reg) (v : Byte) : (s.setReg r v).sp = s.sp := rfl
@[simp] theorem State.setReg_flags (s : State) (r : Reg) (v : Byte) : (s.setReg r v).flags = s.flags := rfl
@[simp] theorem State.setReg_ie (s : State) (r : Reg) (v : Byte) : (s.setReg r v).ie = s.ie := rfl
@[simp] theorem State.setReg_run (s : State) (r : Reg) (v : Byte) : (s.setReg r v).run = s.run := rfl
@[simp] theorem State.setReg_mem (s : State) (r : Reg) (v : Byte) : (s.setReg r v).mem = s.mem := rfl
@[simp] theorem State.setReg_build (s : State) (r : Reg) (v : Byte) : (s.setReg r v).build = s.build := rfl
@[simp] theorem State.setReg_ports (s : State) (r : Reg) (v : Byte) : (s.setReg r v).ports = s.ports := rfl

@[simp] theorem State.setBc_regs (s : State) (v : Word) : (s.setBc v).regs = { s.regs with b := highByte v, c := lowByte v } := rfl
@[simp] theorem State.setBc_pc (s : State) (v : Word) : (s.setBc v).pc = s.pc := rfl
@[simp] theorem State.setBc_sp (s : State) (v : Word) : (s.setBc v).sp = s.sp := rfl
@[simp] theorem State.setBc_flags (s : State) (v : Word) : (s.setBc v).flags = s.flags := rfl
@[simp] theorem State.setBc_ie (s : State) (v : Word) : (s.setBc v).ie = s.ie := rfl
@[simp] theorem State.setBc_run (s : State) (v : Word) : (s.setBc v).run = s.run := rfl
@[simp] theorem State.setBc_mem (s : State) (v : Word) : (s.setBc v).mem = s.mem := rfl
@[simp] theorem State.setBc_build (s : State) (v : Word) : (s.setBc v).build = s.build := rfl
@[simp] theorem State.setBc_ports (s : State) (v : Word) : (s.setBc v).ports = s.ports := rfl

@[simp] theorem State.setDe_regs (s : State) (v : Word) : (s.setDe v).regs = { s.regs with d := highByte v, e := lowByte v } := rfl
@[simp] theorem State.setDe_pc (s : State) (v : Word) : (s.setDe v).pc = s.pc := rfl
@[simp] theorem State.setDe_sp (s : State) (v : Word) : (s.setDe v).sp = s.sp := rfl
@[simp] theorem State.setDe_flags (s : State) (v : Word) : (s.setDe v).flags = s.flags := rfl
@[simp] theorem State.setDe_ie (s : State) (v : Word) : (s.setDe v).ie = s.ie := rfl
@[simp] theorem State.setDe_run (s : State) (v : Word) : (s.setDe v).run = s.run := rfl
@[simp] theorem State.setDe_mem (s : State) (v : Word) : (s.setDe v).mem = s.mem := rfl
@[simp] theorem State.setDe_build (s : State) (v : Word) : (s.setDe v).build = s.build := rfl
@[simp] theorem State.setDe_ports (s : State) (v : Word) : (s.setDe v).ports = s.ports := rfl

@[simp] theorem State.setHl_regs (s : State) (v : Word) : (s.setHl v).regs = { s.regs with h := highByte v, l := lowByte v } := rfl
@[simp] theorem State.setHl_pc (s : State) (v : Word) : (s.setHl v).pc = s.pc := rfl
@[simp] theorem State.setHl_sp (s : State) (v : Word) : (s.setHl v).sp = s.sp := rfl
@[simp] theorem State.setHl_flags (s : State) (v : Word) : (s.setHl v).flags = s.flags := rfl
@[simp] theorem State.setHl_ie (s : State) (v : Word) : (s.setHl v).ie = s.ie := rfl
@[simp] theorem State.setHl_run (s : State) (v : Word) : (s.setHl v).run = s.run := rfl
@[simp] theorem State.setHl_mem (s : State) (v : Word) : (s.setHl v).mem = s.mem := rfl
@[simp] theorem State.setHl_build (s : State) (v : Word) : (s.setHl v).build = s.build := rfl
@[simp] theorem State.setHl_ports (s : State) (v : Word) : (s.setHl v).ports = s.ports := rfl

@[simp] theorem State.setSp_regs (s : State) (v : Word) : (s.setSp v).regs = s.regs := rfl
@[simp] theorem State.setSp_pc (s : State) (v : Word) : (s.setSp v).pc = s.pc := rfl
@[simp] theorem State.setSp_sp (s : State) (v : Word) : (s.setSp v).sp = v := rfl
@[simp] theorem State.setSp_flags (s : State) (v : Word) : (s.setSp v).flags = s.flags := rfl
@[simp] theorem State.setSp_ie (s : State) (v : Word) : (s.setSp v).ie = s.ie := rfl
@[simp] theorem State.setSp_run (s : State) (v : Word) : (s.setSp v).run = s.run := rfl
@[simp] theorem State.setSp_mem (s : State) (v : Word) : (s.setSp v).mem = s.mem := rfl
@[simp] theorem State.setSp_build (s : State) (v : Word) : (s.setSp v).build = s.build := rfl
@[simp] theorem State.setSp_ports (s : State) (v : Word) : (s.setSp v).ports = s.ports := rfl

@[simp] theorem State.setFlags_regs (s : State) (f : Flags) : (s.setFlags f).regs = s.regs := rfl
@[simp] theorem State.setFlags_pc (s : State) (f : Flags) : (s.setFlags f).pc = s.pc := rfl
@[simp] theorem State.setFlags_sp (s : State) (f : Flags) : (s.setFlags f).sp = s.sp := rfl
@[simp] theorem State.setFlags_flags (s : State) (f : Flags) : (s.setFlags f).flags = f := rfl
@[simp] theorem State.setFlags_ie (s : State) (f : Flags) : (s.setFlags f).ie = s.ie := rfl
@[simp] theorem State.setFlags_run (s : State) (f : Flags) : (s.setFlags f).run = s.run := rfl
@[simp] theorem State.setFlags_mem (s : State) (f : Flags) : (s.setFlags f).mem = s.mem := rfl
@[simp] theorem State.setFlags_build (s : State) (f : Flags) : (s.setFlags f).build = s.build := rfl
@[simp] theorem State.setFlags_ports (s : State) (f : Flags) : (s.setFlags f).ports = s.ports := rfl

@[simp] theorem State.setCarry_regs (s : State) (b : Bool) : (s.setCarry b).regs = s.regs := rfl
@[simp] theorem State.setCarry_pc (s : State) (b : Bool) : (s.setCarry b).pc = s.pc := rfl
@[simp] theorem State.setCarry_sp (s : State) (b : Bool) : (s.setCarry b).sp = s.sp := rfl
@[simp] theorem State.setCarry_flags (s : State) (b : Bool) : (s.setCarry b).flags = { s.flags with cy := b } := rfl
@[simp] theorem State.setCarry_ie (s : State) (b : Bool) : (s.setCarry b).ie = s.ie := rfl
@[simp] theorem State.setCarry_run (s : State) (b : Bool) : (s.setCarry b).run = s.run := rfl
@[simp] theorem State.setCarry_mem (s : State) (b : Bool) : (s.setCarry b).mem = s.mem := rfl
@[simp] theorem State.setCarry_build (s : State) (b : Bool) : (s.setCarry b).build = s.build := rfl
@[simp] theorem State.setCarry_ports (s : State) (b : Bool) : (s.setCarry b).ports = s.ports := rfl

@[simp] theorem State.jump_regs (s : State) (a : Word) : (s.jump a).regs = s.regs := rfl
@[simp] theorem State.jump_pc (s : State) (a : Word) : (s.jump a).pc = a := rfl
@[simp] theorem State.jump_sp (s : State) (a : Word) : (s.jump a).sp = s.sp := rfl
@[simp] theorem State.jump_flags (s : State) (a : Word) : (s.jump a).flags = s.flags := rfl
@[simp] theorem State.jump_ie (s : State) (a : Word) : (s.jump a).ie = s.ie := rfl
@[simp] theorem State.jump_run (s : State) (a : Word) : (s.jump a).run = s.run := rfl
@[simp] theorem State.jump_mem (s : State) (a : Word) : (s.jump a).mem = s.mem := rfl
@[simp] theorem State.jump_build (s : State) (a : Word) : (s.jump a).build = s.build := rfl
@[simp] theorem State.jump_ports (s : State) (a : Word) : (s.jump a).ports = s.ports := rfl

@[simp] theorem State.advance_regs (s : State) (n : Word) : (s.advance n).regs = s.regs := rfl
@[simp] theorem State.advance_pc (s : State) (n : Word) : (s.advance n).pc = s.pc + n := rfl
@[simp] theorem State.advance_sp (s : State) (n : Word) : (s.advance n).sp = s.sp := rfl
@[simp] theorem State.advance_flags (s : State) (n : Word) : (s.advance n).flags = s.flags := rfl
@[simp] theorem State.advance_ie (s : State) (n : Word) : (s.advance n).ie = s.ie := rfl
@[simp] theorem State.advance_run (s : State) (n : Word) : (s.advance n).run = s.run := rfl
@[simp] theorem State.advance_mem (s : State) (n : Word) : (s.advance n).mem = s.mem := rfl
@[simp] theorem State.advance_build (s : State) (n : Word) : (s.advance n).build = s.build := rfl
@[simp] theorem State.advance_ports (s : State) (n : Word) : (s.advance n).ports = s.ports := rfl

@[simp] theorem State.writeByte_regs (s : State) (a : Word) (v : Byte) : (s.writeByte a v).regs = s.regs := rfl
@[simp] theorem State.writeByte_pc (s : State) (a : Word) (v : Byte) : (s.writeByte a v).pc = s.pc := rfl
@[simp] theorem State.writeByte_sp (s : State) (a : Word) (v : Byte) : (s.writeByte a v).sp = s.sp := rfl
@[simp] theorem State.writeByte_flags (s : State) (a : Word) (v : Byte) : (s.writeByte a v).flags = s.flags := rfl
@[simp] theorem State.writeByte_ie (s : State) (a : Word) (v : Byte) : (s.writeByte a v).ie = s.ie := rfl
@[simp] theorem State.writeByte_run (s : State) (a : Word) (v : Byte) : (s.writeByte a v).run = s.run := rfl
@[simp] theorem State.writeByte_mem (s : State) (a : Word) (v : Byte) : (s.writeByte a v).mem = s.mem.write a.toNat v := rfl
@[simp] theorem State.writeByte_build (s : State) (a : Word) (v : Byte) : (s.writeByte a v).build = s.build := rfl
@[simp] theorem State.writeByte_ports (s : State) (a : Word) (v : Byte) : (s.writeByte a v).ports = s.ports := rfl

@[simp] theorem State.writeWord_regs (s : State) (a v : Word) : (s.writeWord a v).regs = s.regs := rfl
@[simp] theorem State.writeWord_pc (s : State) (a v : Word) : (s.writeWord a v).pc = s.pc := rfl
@[simp] theorem State.writeWord_sp (s : State) (a v : Word) : (s.writeWord a v).sp = s.sp := rfl
@[simp] theorem State.writeWord_flags (s : State) (a v : Word) : (s.writeWord a v).flags = s.flags := rfl
@[simp] theorem State.writeWord_ie (s : State) (a v : Word) : (s.writeWord a v).ie = s.ie := rfl
@[simp] theorem State.writeWord_run (s : State) (a v : Word) : (s.writeWord a v).run = s.run := rfl
@[simp] theorem State.writeWord_mem (s : State) (a v : Word) : (s.writeWord a v).mem = (s.mem.write a.toNat (lowByte v)).write (a + 1).toNat (highByte v) := rfl
@[simp] theorem State.writeWord_build (s : State) (a v : Word) : (s.writeWord a v).build = s.build := rfl
@[simp] theorem State.writeWord_ports (s : State) (a v : Word) : (s.writeWord a v).ports = s.ports := rfl

@[simp] theorem State.push16_regs (s : State) (v : Word) : (s.push16 v).regs = s.regs := rfl
@[simp] theorem State.push16_pc (s : State) (v : Word) : (s.push16 v).pc = s.pc := rfl
@[simp] theorem State.push16_sp (s : State) (v : Word) : (s.push16 v).sp = s.sp - 2 := rfl
@[simp] theorem State.push16_flags (s : State) (v : Word) : (s.push16 v).flags = s.flags := rfl
@[simp] theorem State.push16_ie (s : State) (v : Word) : (s.push16 v).ie = s.ie := rfl
@[simp] theorem State.push16_run (s : State) (v : Word) : (s.push16 v).run = s.run := rfl
@[simp] theorem State.push16_mem (s : State) (v : Word) : (s.push16 v).mem = (s.mem.write (s.sp - 1).toNat (highByte v)).write (s.sp - 2).toNat (lowByte v) := rfl
@[simp] theorem State.push16_build (s : State) (v : Word) : (s.push16 v).build = s.build := rfl
@[simp] theorem State.push16_ports (s : State) (v : Word) : (s.push16 v).ports = s.ports := rfl

@[simp] theorem State.drop16_regs (s : State) : (s.drop16).regs = s.regs := rfl
@[simp] theorem State.drop16_pc (s : State) : (s.drop16).pc = s.pc := rfl
@[simp] theorem State.drop16_sp (s : State) : (s.drop16).sp = s.sp + 2 := rfl
@[simp] theorem State.drop16_flags (s : State) : (s.drop16).flags = s.flags := rfl
@[simp] theorem State.drop16_ie (s : State) : (s.drop16).ie = s.ie := rfl
@[simp] theorem State.drop16_run (s : State) : (s.drop16).run = s.run := rfl
@[simp] theorem State.drop16_mem (s : State) : (s.drop16).mem = s.mem := rfl
@[simp] theorem State.drop16_build (s : State) : (s.drop16).build = s.build := rfl
@[simp] theorem State.drop16_ports (s : State) : (s.drop16).ports = s.ports := rfl

@[simp] theorem State.popPc_regs (s : State) : (s.popPc).regs = s.regs := rfl
@[simp] theorem State.popPc_pc (s : State) : (s.popPc).pc = s.top16 := rfl
@[simp] theorem State.popPc_sp (s : State) : (s.popPc).sp = s.sp + 2 := rfl
@[simp] theorem State.popPc_flags (s : State) : (s.popPc).flags = s.flags := rfl
@[simp] theorem State.popPc_ie (s : State) : (s.popPc).ie = s.ie := rfl
@[simp] theorem State.popPc_run (s : State) : (s.popPc).run = s.run := rfl
@[simp] theorem State.popPc_mem (s : State) : (s.popPc).mem = s.mem := rfl
@[simp] theorem State.popPc_build (s : State) : (s.popPc).build = s.build := rfl
@[simp] theorem State.popPc_ports (s : State) : (s.popPc).ports = s.ports := rfl

@[simp] theorem State.setPsw_regs (s : State) (v : Word) : (s.setPsw v).regs = s.regs.set .a (highByte v) := rfl
@[simp] theorem State.setPsw_pc (s : State) (v : Word) : (s.setPsw v).pc = s.pc := rfl
@[simp] theorem State.setPsw_sp (s : State) (v : Word) : (s.setPsw v).sp = s.sp := rfl
@[simp] theorem State.setPsw_flags (s : State) (v : Word) : (s.setPsw v).flags = Flags.ofByte (lowByte v) := rfl
@[simp] theorem State.setPsw_ie (s : State) (v : Word) : (s.setPsw v).ie = s.ie := rfl
@[simp] theorem State.setPsw_run (s : State) (v : Word) : (s.setPsw v).run = s.run := rfl
@[simp] theorem State.setPsw_mem (s : State) (v : Word) : (s.setPsw v).mem = s.mem := rfl
@[simp] theorem State.setPsw_build (s : State) (v : Word) : (s.setPsw v).build = s.build := rfl
@[simp] theorem State.setPsw_ports (s : State) (v : Word) : (s.setPsw v).ports = s.ports := rfl

@[simp] theorem State.exchangeHlDe_regs (s : State) : (s.exchangeHlDe).regs = { s.regs with h := s.regs.d, l := s.regs.e, d := s.regs.h, e := s.regs.l } := rfl
@[simp] theorem State.exchangeHlDe_pc (s : State) : (s.exchangeHlDe).pc = s.pc := rfl
@[simp] theorem State.exchangeHlDe_sp (s : State) : (s.exchangeHlDe).sp = s.sp := rfl
@[simp] theorem State.exchangeHlDe_flags (s : State) : (s.exchangeHlDe).flags = s.flags := rfl
@[simp] theorem State.exchangeHlDe_ie (s : State) : (s.exchangeHlDe).ie = s.ie := rfl
@[simp] theorem State.exchangeHlDe_run (s : State) : (s.exchangeHlDe).run = s.run := rfl
@[simp] theorem State.exchangeHlDe_mem (s : State) : (s.exchangeHlDe).mem = s.mem := rfl
@[simp] theorem State.exchangeHlDe_build (s : State) : (s.exchangeHlDe).build = s.build := rfl
@[simp] theorem State.exchangeHlDe_ports (s : State) : (s.exchangeHlDe).ports = s.ports := rfl

@[simp] theorem State.recordInput_regs (s : State) (n v : Byte) : (s.recordInput n v).regs = s.regs := rfl
@[simp] theorem State.recordInput_pc (s : State) (n v : Byte) : (s.recordInput n v).pc = s.pc := rfl
@[simp] theorem State.recordInput_sp (s : State) (n v : Byte) : (s.recordInput n v).sp = s.sp := rfl
@[simp] theorem State.recordInput_flags (s : State) (n v : Byte) : (s.recordInput n v).flags = s.flags := rfl
@[simp] theorem State.recordInput_ie (s : State) (n v : Byte) : (s.recordInput n v).ie = s.ie := rfl
@[simp] theorem State.recordInput_run (s : State) (n v : Byte) : (s.recordInput n v).run = s.run := rfl
@[simp] theorem State.recordInput_mem (s : State) (n v : Byte) : (s.recordInput n v).mem = s.mem := rfl
@[simp] theorem State.recordInput_build (s : State) (n v : Byte) : (s.recordInput n v).build = s.build := rfl
@[simp] theorem State.recordInput_ports (s : State) (n v : Byte) : (s.recordInput n v).ports = { inputs := s.ports.inputs.tail, events := s.ports.events ++ [.input n v] } := rfl

@[simp] theorem State.recordOutput_regs (s : State) (n v : Byte) : (s.recordOutput n v).regs = s.regs := rfl
@[simp] theorem State.recordOutput_pc (s : State) (n v : Byte) : (s.recordOutput n v).pc = s.pc := rfl
@[simp] theorem State.recordOutput_sp (s : State) (n v : Byte) : (s.recordOutput n v).sp = s.sp := rfl
@[simp] theorem State.recordOutput_flags (s : State) (n v : Byte) : (s.recordOutput n v).flags = s.flags := rfl
@[simp] theorem State.recordOutput_ie (s : State) (n v : Byte) : (s.recordOutput n v).ie = s.ie := rfl
@[simp] theorem State.recordOutput_run (s : State) (n v : Byte) : (s.recordOutput n v).run = s.run := rfl
@[simp] theorem State.recordOutput_mem (s : State) (n v : Byte) : (s.recordOutput n v).mem = s.mem := rfl
@[simp] theorem State.recordOutput_build (s : State) (n v : Byte) : (s.recordOutput n v).build = s.build := rfl
@[simp] theorem State.recordOutput_ports (s : State) (n v : Byte) : (s.recordOutput n v).ports = { inputs := s.ports.inputs, events := s.ports.events ++ [.output n v] } := rfl

@[simp] theorem State.setIe_regs (s : State) (v : Bool) : (s.setIe v).regs = s.regs := rfl
@[simp] theorem State.setIe_pc (s : State) (v : Bool) : (s.setIe v).pc = s.pc := rfl
@[simp] theorem State.setIe_sp (s : State) (v : Bool) : (s.setIe v).sp = s.sp := rfl
@[simp] theorem State.setIe_flags (s : State) (v : Bool) : (s.setIe v).flags = s.flags := rfl
@[simp] theorem State.setIe_ie (s : State) (v : Bool) : (s.setIe v).ie = v := rfl
@[simp] theorem State.setIe_run (s : State) (v : Bool) : (s.setIe v).run = s.run := rfl
@[simp] theorem State.setIe_mem (s : State) (v : Bool) : (s.setIe v).mem = s.mem := rfl
@[simp] theorem State.setIe_build (s : State) (v : Bool) : (s.setIe v).build = s.build := rfl
@[simp] theorem State.setIe_ports (s : State) (v : Bool) : (s.setIe v).ports = s.ports := rfl

@[simp] theorem State.setRun_regs (s : State) (r : RunState) : (s.setRun r).regs = s.regs := rfl
@[simp] theorem State.setRun_pc (s : State) (r : RunState) : (s.setRun r).pc = s.pc := rfl
@[simp] theorem State.setRun_sp (s : State) (r : RunState) : (s.setRun r).sp = s.sp := rfl
@[simp] theorem State.setRun_flags (s : State) (r : RunState) : (s.setRun r).flags = s.flags := rfl
@[simp] theorem State.setRun_ie (s : State) (r : RunState) : (s.setRun r).ie = s.ie := rfl
@[simp] theorem State.setRun_run (s : State) (r : RunState) : (s.setRun r).run = r := rfl
@[simp] theorem State.setRun_mem (s : State) (r : RunState) : (s.setRun r).mem = s.mem := rfl
@[simp] theorem State.setRun_build (s : State) (r : RunState) : (s.setRun r).build = s.build := rfl
@[simp] theorem State.setRun_ports (s : State) (r : RunState) : (s.setRun r).ports = s.ports := rfl

@[simp] theorem State.raiseFaulted_regs (s : State) (c : FaultReason) (a : Word) (v : Byte) : (s.raiseFaulted c a v).regs = s.regs := rfl
@[simp] theorem State.raiseFaulted_pc (s : State) (c : FaultReason) (a : Word) (v : Byte) : (s.raiseFaulted c a v).pc = s.pc := rfl
@[simp] theorem State.raiseFaulted_sp (s : State) (c : FaultReason) (a : Word) (v : Byte) : (s.raiseFaulted c a v).sp = s.sp := rfl
@[simp] theorem State.raiseFaulted_flags (s : State) (c : FaultReason) (a : Word) (v : Byte) : (s.raiseFaulted c a v).flags = s.flags := rfl
@[simp] theorem State.raiseFaulted_ie (s : State) (c : FaultReason) (a : Word) (v : Byte) : (s.raiseFaulted c a v).ie = s.ie := rfl
@[simp] theorem State.raiseFaulted_run (s : State) (c : FaultReason) (a : Word) (v : Byte) : (s.raiseFaulted c a v).run = .faulted { reason := c, addr := a, byte := v } := rfl
@[simp] theorem State.raiseFaulted_mem (s : State) (c : FaultReason) (a : Word) (v : Byte) : (s.raiseFaulted c a v).mem = s.mem := rfl
@[simp] theorem State.raiseFaulted_build (s : State) (c : FaultReason) (a : Word) (v : Byte) : (s.raiseFaulted c a v).build = s.build := rfl
@[simp] theorem State.raiseFaulted_ports (s : State) (c : FaultReason) (a : Word) (v : Byte) : (s.raiseFaulted c a v).ports = s.ports := rfl

@[simp] theorem State.load_regs (s : State) (base : Nat) (bs : List Byte) : (s.load base bs).regs = s.regs := rfl
@[simp] theorem State.load_pc (s : State) (base : Nat) (bs : List Byte) : (s.load base bs).pc = s.pc := rfl
@[simp] theorem State.load_sp (s : State) (base : Nat) (bs : List Byte) : (s.load base bs).sp = s.sp := rfl
@[simp] theorem State.load_flags (s : State) (base : Nat) (bs : List Byte) : (s.load base bs).flags = s.flags := rfl
@[simp] theorem State.load_ie (s : State) (base : Nat) (bs : List Byte) : (s.load base bs).ie = s.ie := rfl
@[simp] theorem State.load_run (s : State) (base : Nat) (bs : List Byte) : (s.load base bs).run = s.run := rfl
@[simp] theorem State.load_mem (s : State) (base : Nat) (bs : List Byte) : (s.load base bs).mem = s.mem.load base bs := rfl
@[simp] theorem State.load_build (s : State) (base : Nat) (bs : List Byte) : (s.load base bs).build = s.build := rfl
@[simp] theorem State.load_ports (s : State) (base : Nat) (bs : List Byte) : (s.load base bs).ports = s.ports := rfl

@[simp] theorem State.loadSetup_regs (s : State) (p : Setup) : (s.loadSetup p).regs = s.regs := rfl
@[simp] theorem State.loadSetup_pc (s : State) (p : Setup) : (s.loadSetup p).pc = s.pc := rfl
@[simp] theorem State.loadSetup_sp (s : State) (p : Setup) : (s.loadSetup p).sp = s.sp := rfl
@[simp] theorem State.loadSetup_flags (s : State) (p : Setup) : (s.loadSetup p).flags = s.flags := rfl
@[simp] theorem State.loadSetup_ie (s : State) (p : Setup) : (s.loadSetup p).ie = s.ie := rfl
@[simp] theorem State.loadSetup_run (s : State) (p : Setup) : (s.loadSetup p).run = s.run := rfl
@[simp] theorem State.loadSetup_mem (s : State) (p : Setup) : (s.loadSetup p).mem = s.mem.load p.loadBase.toNat p.image := rfl
@[simp] theorem State.loadSetup_build (s : State) (p : Setup) : (s.loadSetup p).build = { s.build with progEnd := p.programEnd } := rfl
@[simp] theorem State.loadSetup_ports (s : State) (p : Setup) : (s.loadSetup p).ports = s.ports := rfl

@[simp] theorem State.renew_regs (s : State) : s.renew.regs = (State.fresh s.build).regs := rfl
@[simp] theorem State.renew_pc (s : State) : s.renew.pc = 0 := rfl
@[simp] theorem State.renew_sp (s : State) : s.renew.sp = s.build.resetRegs.sp := rfl
@[simp] theorem State.renew_flags (s : State) : s.renew.flags = (State.fresh s.build).flags := rfl
@[simp] theorem State.renew_ie (s : State) : s.renew.ie = false := rfl
@[simp] theorem State.renew_run (s : State) : s.renew.run = .running := rfl
@[simp] theorem State.renew_mem (s : State) : s.renew.mem = [] := rfl
@[simp] theorem State.renew_build (s : State) : s.renew.build = s.build := rfl
@[simp] theorem State.renew_ports (s : State) : s.renew.ports = s.ports := rfl

@[simp] theorem State.setDest_pc (s : State) (d : Src) (v : Byte) : (s.setDest d v).pc = s.pc := by cases d <;> rfl
@[simp] theorem State.setDest_sp (s : State) (d : Src) (v : Byte) : (s.setDest d v).sp = s.sp := by cases d <;> rfl
@[simp] theorem State.setDest_flags (s : State) (d : Src) (v : Byte) : (s.setDest d v).flags = s.flags := by cases d <;> rfl
@[simp] theorem State.setDest_ie (s : State) (d : Src) (v : Byte) : (s.setDest d v).ie = s.ie := by cases d <;> rfl
@[simp] theorem State.setDest_run (s : State) (d : Src) (v : Byte) : (s.setDest d v).run = s.run := by cases d <;> rfl
@[simp] theorem State.setDest_build (s : State) (d : Src) (v : Byte) : (s.setDest d v).build = s.build := by cases d <;> rfl
@[simp] theorem State.setDest_ports (s : State) (d : Src) (v : Byte) : (s.setDest d v).ports = s.ports := by cases d <;> rfl

@[simp] theorem State.setPair_pc (s : State) (p : Pair) (v : Word) : (s.setPair p v).pc = s.pc := by cases p <;> rfl
@[simp] theorem State.setPair_flags (s : State) (p : Pair) (v : Word) : (s.setPair p v).flags = s.flags := by cases p <;> rfl
@[simp] theorem State.setPair_ie (s : State) (p : Pair) (v : Word) : (s.setPair p v).ie = s.ie := by cases p <;> rfl
@[simp] theorem State.setPair_run (s : State) (p : Pair) (v : Word) : (s.setPair p v).run = s.run := by cases p <;> rfl
@[simp] theorem State.setPair_mem (s : State) (p : Pair) (v : Word) : (s.setPair p v).mem = s.mem := by cases p <;> rfl
@[simp] theorem State.setPair_build (s : State) (p : Pair) (v : Word) : (s.setPair p v).build = s.build := by cases p <;> rfl
@[simp] theorem State.setPair_ports (s : State) (p : Pair) (v : Word) : (s.setPair p v).ports = s.ports := by cases p <;> rfl

@[simp] theorem State.setStackPair_pc (s : State) (p : StackPair) (v : Word) : (s.setStackPair p v).pc = s.pc := by cases p <;> rfl
@[simp] theorem State.setStackPair_sp (s : State) (p : StackPair) (v : Word) : (s.setStackPair p v).sp = s.sp := by cases p <;> rfl
@[simp] theorem State.setStackPair_flags (s : State) (p : StackPair) (v : Word) : (s.setStackPair p v).flags = s.flags := by cases p <;> rfl
@[simp] theorem State.setStackPair_ie (s : State) (p : StackPair) (v : Word) : (s.setStackPair p v).ie = s.ie := by cases p <;> rfl
@[simp] theorem State.setStackPair_run (s : State) (p : StackPair) (v : Word) : (s.setStackPair p v).run = s.run := by cases p <;> rfl
@[simp] theorem State.setStackPair_mem (s : State) (p : StackPair) (v : Word) : (s.setStackPair p v).mem = s.mem := by cases p <;> rfl
@[simp] theorem State.setStackPair_build (s : State) (p : StackPair) (v : Word) : (s.setStackPair p v).build = s.build := by cases p <;> rfl
@[simp] theorem State.setStackPair_ports (s : State) (p : StackPair) (v : Word) : (s.setStackPair p v).ports = s.ports := by cases p <;> rfl

end Sys2Proof.Machine
end

