-- ==== Sys2Proof/Laws/Ops.lean ====
section
/-! SUPPORT. One lemma per shared operation: everything the operation does. -/

namespace Sys2Proof.Machine

/-! Registers and pairs. -/

@[simp] theorem Regs.get_set_self (g : Regs) (r : Reg) (v : Byte) : (g.set r v).get r = v := by
  cases r <;> rfl

theorem Regs.get_set_of_ne (g : Regs) {r q : Reg} (v : Byte) (h : q ≠ r) : (g.set r v).get q = g.get q := by
  cases r <;> cases q <;> first | rfl | exact absurd rfl h

@[simp] theorem highByte_wordOf (hi lo : Byte) : highByte (wordOf hi lo) = hi := by
  apply BitVec.eq_of_toNat_eq
  simp only [highByte, wordOf, BitVec.extractLsb'_toNat, BitVec.toNat_append, Nat.shiftRight_eq_div_pow]
  have h1 := hi.isLt
  have h2 := lo.isLt
  rw [← Nat.shiftLeft_add_eq_or_of_lt h2, Nat.shiftLeft_eq]
  omega

@[simp] theorem lowByte_wordOf (hi lo : Byte) : lowByte (wordOf hi lo) = lo := by
  apply BitVec.eq_of_toNat_eq
  simp only [lowByte, wordOf, BitVec.extractLsb'_toNat, BitVec.toNat_append]
  have h2 := lo.isLt
  rw [← Nat.shiftLeft_add_eq_or_of_lt h2, Nat.shiftLeft_eq]
  omega

theorem wordOf_toNat (hi lo : Byte) : (wordOf hi lo).toNat = hi.toNat * 256 + lo.toNat := by
  simp only [wordOf, BitVec.toNat_append]
  rw [← Nat.shiftLeft_add_eq_or_of_lt lo.isLt, Nat.shiftLeft_eq]

@[simp] theorem wordOf_highByte_lowByte (w : Word) : wordOf (highByte w) (lowByte w) = w := by
  apply BitVec.eq_of_toNat_eq
  rw [wordOf_toNat]
  simp only [highByte, lowByte, BitVec.extractLsb'_toNat, Nat.shiftRight_eq_div_pow]
  have := w.isLt
  omega

@[simp] theorem State.pair_setPair (s : State) (p : Pair) (v : Word) : (s.setPair p v).pair p = v := by
  cases p <;> simp [State.setPair, State.pair, State.bc, State.de, State.hl]

/-! Memory, the stack, and fetching. -/

theorem State.readByte_writeByte {s : State} (hs : s.mem.wf = true) (a b : Word) (v : Byte) :
    (s.writeByte a v).readByte b = if b = a then v else s.readByte b := by
  simp only [State.readByte, State.writeByte_mem, Memory.read_write hs, BitVec.toNat_inj]

theorem State.readByte_writeByte_of_ne (s : State) {a b : Word} (v : Byte) (h : b ≠ a) :
    (s.writeByte a v).readByte b = s.readByte b :=
  Memory.read_write_of_ne s.mem v (fun e => h (BitVec.eq_of_toNat_eq e))

theorem State.wf_writeByte {s : State} (hs : s.mem.wf = true) (a : Word) (v : Byte) :
    (s.writeByte a v).mem.wf = true := Memory.wf_write hs a v

theorem State.wf_writeWord {s : State} (hs : s.mem.wf = true) (a v : Word) : (s.writeWord a v).mem.wf = true :=
  Memory.wf_write (Memory.wf_write hs a _) (a + 1) _

theorem State.wf_push16 {s : State} (hs : s.mem.wf = true) (v : Word) : (s.push16 v).mem.wf = true :=
  Memory.wf_write (Memory.wf_write hs _ _) _ _

theorem State.wf_setDest {s : State} (hs : s.mem.wf = true) (d : Src) (v : Byte) : (s.setDest d v).mem.wf = true := by
  cases d
  · exact hs
  · exact Memory.wf_write hs _ _

/-- A byte read looks at memory only. -/
theorem State.readByte_congr {s t : State} (h : t.mem = s.mem) (a : Word) : t.readByte a = s.readByte a := by
  rw [State.readByte, State.readByte, h]

@[simp] theorem State.readByte_setReg (s : State) (r : Reg) (v : Byte) (a : Word) :
    (s.setReg r v).readByte a = s.readByte a := rfl
@[simp] theorem State.readByte_setHl (s : State) (v a : Word) : (s.setHl v).readByte a = s.readByte a := rfl
@[simp] theorem State.readByte_setSp (s : State) (v a : Word) : (s.setSp v).readByte a = s.readByte a := rfl
@[simp] theorem State.readByte_setFlags (s : State) (f : Flags) (a : Word) :
    (s.setFlags f).readByte a = s.readByte a := rfl
@[simp] theorem State.readByte_jump (s : State) (v a : Word) : (s.jump v).readByte a = s.readByte a := rfl
@[simp] theorem State.readByte_advance (s : State) (n a : Word) : (s.advance n).readByte a = s.readByte a := rfl

/-- Every byte after a 16-bit store (20_memory.md R44). -/
theorem State.readByte_writeWord {s : State} (hs : s.mem.wf = true) (a v b : Word) :
    (s.writeWord a v).readByte b =
      if b = a + 1 then highByte v else if b = a then lowByte v else s.readByte b := by
  rw [State.writeWord, State.readByte_writeByte (State.wf_writeByte hs a _), State.readByte_writeByte hs]

/-- Every byte after a push (20_memory.md R46). -/
theorem State.readByte_push16 {s : State} (hs : s.mem.wf = true) (v b : Word) :
    (s.push16 v).readByte b =
      if b = s.sp - 2 then lowByte v else if b = s.sp - 1 then highByte v else s.readByte b := by
  rw [State.push16, State.readByte_setSp, State.readByte_writeByte (State.wf_writeByte hs _ _),
    State.readByte_writeByte hs]

theorem State.push16_eq (s : State) (v : Word) :
    s.push16 v = { s with
      sp := s.sp - 2
      mem := (s.mem.write (s.sp - 1).toNat (highByte v)).write (s.sp - 2).toNat (lowByte v) } := rfl

theorem State.popPc_eq (s : State) : s.popPc = { s with sp := s.sp + 2, pc := s.top16 } := rfl

theorem State.raiseFaulted_eq (s : State) (c : FaultReason) (a : Word) (v : Byte) :
    s.raiseFaulted c a v = { s with run := .faulted { reason := c, addr := a, byte := v } } := rfl

theorem State.serviceIrq_eq (s : State) (n : Fin 8) :
    s.serviceIrq n = { s with
      ie := false
      sp := s.sp - 2
      mem := (s.mem.write (s.sp - 1).toNat (highByte s.pc)).write (s.sp - 2).toNat (lowByte s.pc)
      pc := restartAddress n } := rfl

theorem State.acceptsIrq_iff (s : State) :
    s.acceptsIrq = true ↔ s.run = .running ∧ s.pc.toNat < s.build.progEnd ∧ s.ie = true := by
  simp [State.acceptsIrq, State.pastProgramEnd, and_assoc]

theorem State.irq_cases (s : State) (n : Fin 8) :
    (s.acceptsIrq = true ∧ s.irq n = s.serviceIrq n) ∨ (s.acceptsIrq = false ∧ s.irq n = s) := by
  unfold State.irq
  split
  · next h => exact .inl ⟨h, rfl⟩
  · next h => exact .inr ⟨by simpa using h, rfl⟩

theorem State.implements_iff (s : State) (op : Byte) :
    s.implements op = true ↔ op ∉ s.build.unimplemented := by
  simp [State.implements]

/-! The shared operations of the families. -/

theorem State.moveRegister_eq (s : State) (dst r : Reg) :
    s.moveRegister dst r = { s with regs := s.regs.set dst (s.regs.get r), pc := s.pc + 1 } := rfl

theorem State.moveFromM_eq (s : State) (dst : Reg) :
    s.moveFromM dst = { s with regs := s.regs.set dst (s.readByte s.hl), pc := s.pc + 1 } := rfl

theorem State.moveToM_eq (s : State) (r : Reg) :
    s.moveToM r = { s with mem := s.mem.write s.hl.toNat (s.regs.get r), pc := s.pc + 1 } := rfl

theorem State.moveImmediate_eq (s : State) (dst : Src) (d8 : Byte) :
    s.moveImmediate dst d8 = { s.setDest dst d8 with pc := s.pc + 2 } := by
  cases dst <;> rfl

theorem State.loadPair_eq (s : State) (p : Pair) (d16 : Word) :
    s.loadPair p d16 = { s.setPair p d16 with pc := s.pc + 3 } := by
  cases p <;> rfl

theorem State.exchangeHlDe_eq (s : State) :
    s.exchangeHlDe = { s with
      regs := { s.regs with h := s.regs.d, l := s.regs.e, d := s.regs.h, e := s.regs.l } } := rfl

theorem State.loadA_eq (s : State) (a n : Word) :
    s.loadA a n = { s with regs := { s.regs with a := s.readByte a }, pc := s.pc + n } := rfl

theorem State.storeA_eq (s : State) (a n : Word) :
    s.storeA a n = { s with mem := s.mem.write a.toNat s.regs.a, pc := s.pc + n } := rfl

theorem State.accumulate_eq (s : State) (op : AluOp) (x : Byte) (n : Word) :
    s.accumulate op x n = { s with
      regs := { s.regs with a := (aluResult op s.regs.a x s.flags).1 }
      flags := (aluResult op s.regs.a x s.flags).2
      pc := s.pc + n } := rfl

theorem State.increment_eq (s : State) (d : Src) :
    s.increment d = { s.setDest d (inc8 (s.source d) s.flags).1 with
      flags := (inc8 (s.source d) s.flags).2
      pc := s.pc + 1 } := by
  cases d <;> rfl

theorem State.decrement_eq (s : State) (d : Src) :
    s.decrement d = { s.setDest d (dec8 (s.source d) s.flags).1 with
      flags := (dec8 (s.source d) s.flags).2
      pc := s.pc + 1 } := by
  cases d <;> rfl

theorem State.incrementPair_eq (s : State) (p : Pair) :
    s.incrementPair p = { s.setPair p (s.pair p + 1) with pc := s.pc + 1 } := by
  cases p <;> rfl

theorem State.decrementPair_eq (s : State) (p : Pair) :
    s.decrementPair p = { s.setPair p (s.pair p - 1) with pc := s.pc + 1 } := by
  cases p <;> rfl

theorem State.addToHl_eq (s : State) (p : Pair) :
    s.addToHl p = { s with
      regs := { s.regs with
        h := highByte (add16 s.hl (s.pair p) s.flags).1
        l := lowByte (add16 s.hl (s.pair p) s.flags).1 }
      flags := (add16 s.hl (s.pair p) s.flags).2
      pc := s.pc + 1 } := rfl

theorem State.decimalAdjust_eq (s : State) :
    s.decimalAdjust = { s with
      regs := { s.regs with a := (daa8 s.regs.a s.flags).1 }
      flags := (daa8 s.regs.a s.flags).2
      pc := s.pc + 1 } := rfl

theorem State.rotateTo_eq (s : State) (v : Byte) (b : Bool) :
    s.rotateTo v b = { s with
      regs := { s.regs with a := v }
      flags := { s.flags with cy := b }
      pc := s.pc + 1 } := rfl

theorem State.callTo_eq (s : State) (target n : Word) :
    s.callTo target n = { s with
      sp := s.sp - 2
      mem := (s.mem.write (s.sp - 1).toNat (highByte (s.pc + n))).write (s.sp - 2).toNat (lowByte (s.pc + n))
      pc := target } := rfl

theorem State.jumpWhen_cases (s : State) (cond : Cond) (a : Word) :
    (s.flags.cond cond = true ∧ s.jumpWhen cond a = s.jump a) ∨
      (s.flags.cond cond = false ∧ s.jumpWhen cond a = s.advance 3) := by
  unfold State.jumpWhen
  split
  · next h => exact .inl ⟨h, rfl⟩
  · next h => exact .inr ⟨by simpa using h, rfl⟩

theorem State.callWhen_cases (s : State) (cond : Cond) (a : Word) :
    (s.flags.cond cond = true ∧ s.callWhen cond a = s.callTo a 3) ∨
      (s.flags.cond cond = false ∧ s.callWhen cond a = s.advance 3) := by
  unfold State.callWhen
  split
  · next h => exact .inl ⟨h, rfl⟩
  · next h => exact .inr ⟨by simpa using h, rfl⟩

theorem State.returnWhen_cases (s : State) (cond : Cond) :
    (s.flags.cond cond = true ∧ s.returnWhen cond = s.popPc) ∨
      (s.flags.cond cond = false ∧ s.returnWhen cond = s.advance 1) := by
  unfold State.returnWhen
  split
  · next h => exact .inl ⟨h, rfl⟩
  · next h => exact .inr ⟨by simpa using h, rfl⟩

end Sys2Proof.Machine
end

