-- ==== Sys2Proof/Laws/PerInstr.lean ====
section
/-! SUPPORT. The per-instruction family EncodingLength: the encoder lays down as many bytes as the opcode table's
declared length, which is 1, 2 or 3 (30_encoding.md R60, R62, R74). The encoder is written from the bit patterns, the
table from the map; each lemma checks one against the other. -/

namespace Sys2Proof.Laws.EncodingLength

/-- The encoding has the declared length, 1 to 3 bytes. -/
def Statement (i : Instr) : Prop :=
  (encode i).length = i.length ∧ (i.length = 1 ∨ i.length = 2 ∨ i.length = 3)

/-- The check for one instruction, from its opcode byte. -/
theorem of_opcode {i : Instr} {op : Byte} (n : Nat) (hop : i.opcode = op) (henc : (encode i).length = n)
    (htab : (lookup op).length = n) (hn : n = 1 ∨ n = 2 ∨ n = 3) : Statement i := by
  have hlen : i.length = n := by rw [Instr.length, hop, htab]
  exact ⟨henc.trans hlen.symm, by rw [hlen]; exact hn⟩

theorem movBB : Statement (.movBB) :=
  of_opcode (op := 0x40) 1 rfl rfl rfl (by decide)
theorem movBC : Statement (.movBC) :=
  of_opcode (op := 0x41) 1 rfl rfl rfl (by decide)
theorem movBD : Statement (.movBD) :=
  of_opcode (op := 0x42) 1 rfl rfl rfl (by decide)
theorem movBE : Statement (.movBE) :=
  of_opcode (op := 0x43) 1 rfl rfl rfl (by decide)
theorem movBH : Statement (.movBH) :=
  of_opcode (op := 0x44) 1 rfl rfl rfl (by decide)
theorem movBL : Statement (.movBL) :=
  of_opcode (op := 0x45) 1 rfl rfl rfl (by decide)
theorem movBA : Statement (.movBA) :=
  of_opcode (op := 0x47) 1 rfl rfl rfl (by decide)
theorem movCB : Statement (.movCB) :=
  of_opcode (op := 0x48) 1 rfl rfl rfl (by decide)
theorem movCC : Statement (.movCC) :=
  of_opcode (op := 0x49) 1 rfl rfl rfl (by decide)
theorem movCD : Statement (.movCD) :=
  of_opcode (op := 0x4A) 1 rfl rfl rfl (by decide)
theorem movCE : Statement (.movCE) :=
  of_opcode (op := 0x4B) 1 rfl rfl rfl (by decide)
theorem movCH : Statement (.movCH) :=
  of_opcode (op := 0x4C) 1 rfl rfl rfl (by decide)
theorem movCL : Statement (.movCL) :=
  of_opcode (op := 0x4D) 1 rfl rfl rfl (by decide)
theorem movCA : Statement (.movCA) :=
  of_opcode (op := 0x4F) 1 rfl rfl rfl (by decide)
theorem movDB : Statement (.movDB) :=
  of_opcode (op := 0x50) 1 rfl rfl rfl (by decide)
theorem movDC : Statement (.movDC) :=
  of_opcode (op := 0x51) 1 rfl rfl rfl (by decide)
theorem movDD : Statement (.movDD) :=
  of_opcode (op := 0x52) 1 rfl rfl rfl (by decide)
theorem movDE : Statement (.movDE) :=
  of_opcode (op := 0x53) 1 rfl rfl rfl (by decide)
theorem movDH : Statement (.movDH) :=
  of_opcode (op := 0x54) 1 rfl rfl rfl (by decide)
theorem movDL : Statement (.movDL) :=
  of_opcode (op := 0x55) 1 rfl rfl rfl (by decide)
theorem movDA : Statement (.movDA) :=
  of_opcode (op := 0x57) 1 rfl rfl rfl (by decide)
theorem movEB : Statement (.movEB) :=
  of_opcode (op := 0x58) 1 rfl rfl rfl (by decide)
theorem movEC : Statement (.movEC) :=
  of_opcode (op := 0x59) 1 rfl rfl rfl (by decide)
theorem movED : Statement (.movED) :=
  of_opcode (op := 0x5A) 1 rfl rfl rfl (by decide)
theorem movEE : Statement (.movEE) :=
  of_opcode (op := 0x5B) 1 rfl rfl rfl (by decide)
theorem movEH : Statement (.movEH) :=
  of_opcode (op := 0x5C) 1 rfl rfl rfl (by decide)
theorem movEL : Statement (.movEL) :=
  of_opcode (op := 0x5D) 1 rfl rfl rfl (by decide)
theorem movEA : Statement (.movEA) :=
  of_opcode (op := 0x5F) 1 rfl rfl rfl (by decide)
theorem movHB : Statement (.movHB) :=
  of_opcode (op := 0x60) 1 rfl rfl rfl (by decide)
theorem movHC : Statement (.movHC) :=
  of_opcode (op := 0x61) 1 rfl rfl rfl (by decide)
theorem movHD : Statement (.movHD) :=
  of_opcode (op := 0x62) 1 rfl rfl rfl (by decide)
theorem movHE : Statement (.movHE) :=
  of_opcode (op := 0x63) 1 rfl rfl rfl (by decide)
theorem movHH : Statement (.movHH) :=
  of_opcode (op := 0x64) 1 rfl rfl rfl (by decide)
theorem movHL : Statement (.movHL) :=
  of_opcode (op := 0x65) 1 rfl rfl rfl (by decide)
theorem movHA : Statement (.movHA) :=
  of_opcode (op := 0x67) 1 rfl rfl rfl (by decide)
theorem movLB : Statement (.movLB) :=
  of_opcode (op := 0x68) 1 rfl rfl rfl (by decide)
theorem movLC : Statement (.movLC) :=
  of_opcode (op := 0x69) 1 rfl rfl rfl (by decide)
theorem movLD : Statement (.movLD) :=
  of_opcode (op := 0x6A) 1 rfl rfl rfl (by decide)
theorem movLE : Statement (.movLE) :=
  of_opcode (op := 0x6B) 1 rfl rfl rfl (by decide)
theorem movLH : Statement (.movLH) :=
  of_opcode (op := 0x6C) 1 rfl rfl rfl (by decide)
theorem movLL : Statement (.movLL) :=
  of_opcode (op := 0x6D) 1 rfl rfl rfl (by decide)
theorem movLA : Statement (.movLA) :=
  of_opcode (op := 0x6F) 1 rfl rfl rfl (by decide)
theorem movAB : Statement (.movAB) :=
  of_opcode (op := 0x78) 1 rfl rfl rfl (by decide)
theorem movAC : Statement (.movAC) :=
  of_opcode (op := 0x79) 1 rfl rfl rfl (by decide)
theorem movAD : Statement (.movAD) :=
  of_opcode (op := 0x7A) 1 rfl rfl rfl (by decide)
theorem movAE : Statement (.movAE) :=
  of_opcode (op := 0x7B) 1 rfl rfl rfl (by decide)
theorem movAH : Statement (.movAH) :=
  of_opcode (op := 0x7C) 1 rfl rfl rfl (by decide)
theorem movAL : Statement (.movAL) :=
  of_opcode (op := 0x7D) 1 rfl rfl rfl (by decide)
theorem movAA : Statement (.movAA) :=
  of_opcode (op := 0x7F) 1 rfl rfl rfl (by decide)
theorem movBM : Statement (.movBM) :=
  of_opcode (op := 0x46) 1 rfl rfl rfl (by decide)
theorem movCM : Statement (.movCM) :=
  of_opcode (op := 0x4E) 1 rfl rfl rfl (by decide)
theorem movDM : Statement (.movDM) :=
  of_opcode (op := 0x56) 1 rfl rfl rfl (by decide)
theorem movEM : Statement (.movEM) :=
  of_opcode (op := 0x5E) 1 rfl rfl rfl (by decide)
theorem movHM : Statement (.movHM) :=
  of_opcode (op := 0x66) 1 rfl rfl rfl (by decide)
theorem movLM : Statement (.movLM) :=
  of_opcode (op := 0x6E) 1 rfl rfl rfl (by decide)
theorem movAM : Statement (.movAM) :=
  of_opcode (op := 0x7E) 1 rfl rfl rfl (by decide)
theorem movMB : Statement (.movMB) :=
  of_opcode (op := 0x70) 1 rfl rfl rfl (by decide)
theorem movMC : Statement (.movMC) :=
  of_opcode (op := 0x71) 1 rfl rfl rfl (by decide)
theorem movMD : Statement (.movMD) :=
  of_opcode (op := 0x72) 1 rfl rfl rfl (by decide)
theorem movME : Statement (.movME) :=
  of_opcode (op := 0x73) 1 rfl rfl rfl (by decide)
theorem movMH : Statement (.movMH) :=
  of_opcode (op := 0x74) 1 rfl rfl rfl (by decide)
theorem movML : Statement (.movML) :=
  of_opcode (op := 0x75) 1 rfl rfl rfl (by decide)
theorem movMA : Statement (.movMA) :=
  of_opcode (op := 0x77) 1 rfl rfl rfl (by decide)
theorem mviB (d8 : Byte) : Statement (.mviB d8) :=
  of_opcode (op := 0x06) 2 rfl rfl rfl (by decide)
theorem mviC (d8 : Byte) : Statement (.mviC d8) :=
  of_opcode (op := 0x0E) 2 rfl rfl rfl (by decide)
theorem mviD (d8 : Byte) : Statement (.mviD d8) :=
  of_opcode (op := 0x16) 2 rfl rfl rfl (by decide)
theorem mviE (d8 : Byte) : Statement (.mviE d8) :=
  of_opcode (op := 0x1E) 2 rfl rfl rfl (by decide)
theorem mviH (d8 : Byte) : Statement (.mviH d8) :=
  of_opcode (op := 0x26) 2 rfl rfl rfl (by decide)
theorem mviL (d8 : Byte) : Statement (.mviL d8) :=
  of_opcode (op := 0x2E) 2 rfl rfl rfl (by decide)
theorem mviA (d8 : Byte) : Statement (.mviA d8) :=
  of_opcode (op := 0x3E) 2 rfl rfl rfl (by decide)
theorem mviM (d8 : Byte) : Statement (.mviM d8) :=
  of_opcode (op := 0x36) 2 rfl rfl rfl (by decide)
theorem lxiB (d16 : Word) : Statement (.lxiB d16) :=
  of_opcode (op := 0x01) 3 rfl rfl rfl (by decide)
theorem lxiD (d16 : Word) : Statement (.lxiD d16) :=
  of_opcode (op := 0x11) 3 rfl rfl rfl (by decide)
theorem lxiH (d16 : Word) : Statement (.lxiH d16) :=
  of_opcode (op := 0x21) 3 rfl rfl rfl (by decide)
theorem lxiSP (d16 : Word) : Statement (.lxiSP d16) :=
  of_opcode (op := 0x31) 3 rfl rfl rfl (by decide)
theorem lda (a16 : Word) : Statement (.lda a16) :=
  of_opcode (op := 0x3A) 3 rfl rfl rfl (by decide)
theorem sta (a16 : Word) : Statement (.sta a16) :=
  of_opcode (op := 0x32) 3 rfl rfl rfl (by decide)
theorem lhld (a16 : Word) : Statement (.lhld a16) :=
  of_opcode (op := 0x2A) 3 rfl rfl rfl (by decide)
theorem shld (a16 : Word) : Statement (.shld a16) :=
  of_opcode (op := 0x22) 3 rfl rfl rfl (by decide)
theorem ldaxB : Statement (.ldaxB) :=
  of_opcode (op := 0x0A) 1 rfl rfl rfl (by decide)
theorem ldaxD : Statement (.ldaxD) :=
  of_opcode (op := 0x1A) 1 rfl rfl rfl (by decide)
theorem staxB : Statement (.staxB) :=
  of_opcode (op := 0x02) 1 rfl rfl rfl (by decide)
theorem staxD : Statement (.staxD) :=
  of_opcode (op := 0x12) 1 rfl rfl rfl (by decide)
theorem xchg : Statement (.xchg) :=
  of_opcode (op := 0xEB) 1 rfl rfl rfl (by decide)
theorem addB : Statement (.addB) :=
  of_opcode (op := 0x80) 1 rfl rfl rfl (by decide)
theorem addC : Statement (.addC) :=
  of_opcode (op := 0x81) 1 rfl rfl rfl (by decide)
theorem addD : Statement (.addD) :=
  of_opcode (op := 0x82) 1 rfl rfl rfl (by decide)
theorem addE : Statement (.addE) :=
  of_opcode (op := 0x83) 1 rfl rfl rfl (by decide)
theorem addH : Statement (.addH) :=
  of_opcode (op := 0x84) 1 rfl rfl rfl (by decide)
theorem addL : Statement (.addL) :=
  of_opcode (op := 0x85) 1 rfl rfl rfl (by decide)
theorem addA : Statement (.addA) :=
  of_opcode (op := 0x87) 1 rfl rfl rfl (by decide)
theorem addM : Statement (.addM) :=
  of_opcode (op := 0x86) 1 rfl rfl rfl (by decide)
theorem adi (d8 : Byte) : Statement (.adi d8) :=
  of_opcode (op := 0xC6) 2 rfl rfl rfl (by decide)
theorem adcB : Statement (.adcB) :=
  of_opcode (op := 0x88) 1 rfl rfl rfl (by decide)
theorem adcC : Statement (.adcC) :=
  of_opcode (op := 0x89) 1 rfl rfl rfl (by decide)
theorem adcD : Statement (.adcD) :=
  of_opcode (op := 0x8A) 1 rfl rfl rfl (by decide)
theorem adcE : Statement (.adcE) :=
  of_opcode (op := 0x8B) 1 rfl rfl rfl (by decide)
theorem adcH : Statement (.adcH) :=
  of_opcode (op := 0x8C) 1 rfl rfl rfl (by decide)
theorem adcL : Statement (.adcL) :=
  of_opcode (op := 0x8D) 1 rfl rfl rfl (by decide)
theorem adcA : Statement (.adcA) :=
  of_opcode (op := 0x8F) 1 rfl rfl rfl (by decide)
theorem adcM : Statement (.adcM) :=
  of_opcode (op := 0x8E) 1 rfl rfl rfl (by decide)
theorem aci (d8 : Byte) : Statement (.aci d8) :=
  of_opcode (op := 0xCE) 2 rfl rfl rfl (by decide)
theorem subB : Statement (.subB) :=
  of_opcode (op := 0x90) 1 rfl rfl rfl (by decide)
theorem subC : Statement (.subC) :=
  of_opcode (op := 0x91) 1 rfl rfl rfl (by decide)
theorem subD : Statement (.subD) :=
  of_opcode (op := 0x92) 1 rfl rfl rfl (by decide)
theorem subE : Statement (.subE) :=
  of_opcode (op := 0x93) 1 rfl rfl rfl (by decide)
theorem subH : Statement (.subH) :=
  of_opcode (op := 0x94) 1 rfl rfl rfl (by decide)
theorem subL : Statement (.subL) :=
  of_opcode (op := 0x95) 1 rfl rfl rfl (by decide)
theorem subA : Statement (.subA) :=
  of_opcode (op := 0x97) 1 rfl rfl rfl (by decide)
theorem subM : Statement (.subM) :=
  of_opcode (op := 0x96) 1 rfl rfl rfl (by decide)
theorem sui (d8 : Byte) : Statement (.sui d8) :=
  of_opcode (op := 0xD6) 2 rfl rfl rfl (by decide)
theorem sbbB : Statement (.sbbB) :=
  of_opcode (op := 0x98) 1 rfl rfl rfl (by decide)
theorem sbbC : Statement (.sbbC) :=
  of_opcode (op := 0x99) 1 rfl rfl rfl (by decide)
theorem sbbD : Statement (.sbbD) :=
  of_opcode (op := 0x9A) 1 rfl rfl rfl (by decide)
theorem sbbE : Statement (.sbbE) :=
  of_opcode (op := 0x9B) 1 rfl rfl rfl (by decide)
theorem sbbH : Statement (.sbbH) :=
  of_opcode (op := 0x9C) 1 rfl rfl rfl (by decide)
theorem sbbL : Statement (.sbbL) :=
  of_opcode (op := 0x9D) 1 rfl rfl rfl (by decide)
theorem sbbA : Statement (.sbbA) :=
  of_opcode (op := 0x9F) 1 rfl rfl rfl (by decide)
theorem sbbM : Statement (.sbbM) :=
  of_opcode (op := 0x9E) 1 rfl rfl rfl (by decide)
theorem sbi (d8 : Byte) : Statement (.sbi d8) :=
  of_opcode (op := 0xDE) 2 rfl rfl rfl (by decide)
theorem inrB : Statement (.inrB) :=
  of_opcode (op := 0x04) 1 rfl rfl rfl (by decide)
theorem inrC : Statement (.inrC) :=
  of_opcode (op := 0x0C) 1 rfl rfl rfl (by decide)
theorem inrD : Statement (.inrD) :=
  of_opcode (op := 0x14) 1 rfl rfl rfl (by decide)
theorem inrE : Statement (.inrE) :=
  of_opcode (op := 0x1C) 1 rfl rfl rfl (by decide)
theorem inrH : Statement (.inrH) :=
  of_opcode (op := 0x24) 1 rfl rfl rfl (by decide)
theorem inrL : Statement (.inrL) :=
  of_opcode (op := 0x2C) 1 rfl rfl rfl (by decide)
theorem inrA : Statement (.inrA) :=
  of_opcode (op := 0x3C) 1 rfl rfl rfl (by decide)
theorem inrM : Statement (.inrM) :=
  of_opcode (op := 0x34) 1 rfl rfl rfl (by decide)
theorem dcrB : Statement (.dcrB) :=
  of_opcode (op := 0x05) 1 rfl rfl rfl (by decide)
theorem dcrC : Statement (.dcrC) :=
  of_opcode (op := 0x0D) 1 rfl rfl rfl (by decide)
theorem dcrD : Statement (.dcrD) :=
  of_opcode (op := 0x15) 1 rfl rfl rfl (by decide)
theorem dcrE : Statement (.dcrE) :=
  of_opcode (op := 0x1D) 1 rfl rfl rfl (by decide)
theorem dcrH : Statement (.dcrH) :=
  of_opcode (op := 0x25) 1 rfl rfl rfl (by decide)
theorem dcrL : Statement (.dcrL) :=
  of_opcode (op := 0x2D) 1 rfl rfl rfl (by decide)
theorem dcrA : Statement (.dcrA) :=
  of_opcode (op := 0x3D) 1 rfl rfl rfl (by decide)
theorem dcrM : Statement (.dcrM) :=
  of_opcode (op := 0x35) 1 rfl rfl rfl (by decide)
theorem inxB : Statement (.inxB) :=
  of_opcode (op := 0x03) 1 rfl rfl rfl (by decide)
theorem inxD : Statement (.inxD) :=
  of_opcode (op := 0x13) 1 rfl rfl rfl (by decide)
theorem inxH : Statement (.inxH) :=
  of_opcode (op := 0x23) 1 rfl rfl rfl (by decide)
theorem inxSP : Statement (.inxSP) :=
  of_opcode (op := 0x33) 1 rfl rfl rfl (by decide)
theorem dcxB : Statement (.dcxB) :=
  of_opcode (op := 0x0B) 1 rfl rfl rfl (by decide)
theorem dcxD : Statement (.dcxD) :=
  of_opcode (op := 0x1B) 1 rfl rfl rfl (by decide)
theorem dcxH : Statement (.dcxH) :=
  of_opcode (op := 0x2B) 1 rfl rfl rfl (by decide)
theorem dcxSP : Statement (.dcxSP) :=
  of_opcode (op := 0x3B) 1 rfl rfl rfl (by decide)
theorem dadB : Statement (.dadB) :=
  of_opcode (op := 0x09) 1 rfl rfl rfl (by decide)
theorem dadD : Statement (.dadD) :=
  of_opcode (op := 0x19) 1 rfl rfl rfl (by decide)
theorem dadH : Statement (.dadH) :=
  of_opcode (op := 0x29) 1 rfl rfl rfl (by decide)
theorem dadSP : Statement (.dadSP) :=
  of_opcode (op := 0x39) 1 rfl rfl rfl (by decide)
theorem daa : Statement (.daa) :=
  of_opcode (op := 0x27) 1 rfl rfl rfl (by decide)
theorem anaB : Statement (.anaB) :=
  of_opcode (op := 0xA0) 1 rfl rfl rfl (by decide)
theorem anaC : Statement (.anaC) :=
  of_opcode (op := 0xA1) 1 rfl rfl rfl (by decide)
theorem anaD : Statement (.anaD) :=
  of_opcode (op := 0xA2) 1 rfl rfl rfl (by decide)
theorem anaE : Statement (.anaE) :=
  of_opcode (op := 0xA3) 1 rfl rfl rfl (by decide)
theorem anaH : Statement (.anaH) :=
  of_opcode (op := 0xA4) 1 rfl rfl rfl (by decide)
theorem anaL : Statement (.anaL) :=
  of_opcode (op := 0xA5) 1 rfl rfl rfl (by decide)
theorem anaA : Statement (.anaA) :=
  of_opcode (op := 0xA7) 1 rfl rfl rfl (by decide)
theorem anaM : Statement (.anaM) :=
  of_opcode (op := 0xA6) 1 rfl rfl rfl (by decide)
theorem ani (d8 : Byte) : Statement (.ani d8) :=
  of_opcode (op := 0xE6) 2 rfl rfl rfl (by decide)
theorem xraB : Statement (.xraB) :=
  of_opcode (op := 0xA8) 1 rfl rfl rfl (by decide)
theorem xraC : Statement (.xraC) :=
  of_opcode (op := 0xA9) 1 rfl rfl rfl (by decide)
theorem xraD : Statement (.xraD) :=
  of_opcode (op := 0xAA) 1 rfl rfl rfl (by decide)
theorem xraE : Statement (.xraE) :=
  of_opcode (op := 0xAB) 1 rfl rfl rfl (by decide)
theorem xraH : Statement (.xraH) :=
  of_opcode (op := 0xAC) 1 rfl rfl rfl (by decide)
theorem xraL : Statement (.xraL) :=
  of_opcode (op := 0xAD) 1 rfl rfl rfl (by decide)
theorem xraA : Statement (.xraA) :=
  of_opcode (op := 0xAF) 1 rfl rfl rfl (by decide)
theorem xraM : Statement (.xraM) :=
  of_opcode (op := 0xAE) 1 rfl rfl rfl (by decide)
theorem xri (d8 : Byte) : Statement (.xri d8) :=
  of_opcode (op := 0xEE) 2 rfl rfl rfl (by decide)
theorem oraB : Statement (.oraB) :=
  of_opcode (op := 0xB0) 1 rfl rfl rfl (by decide)
theorem oraC : Statement (.oraC) :=
  of_opcode (op := 0xB1) 1 rfl rfl rfl (by decide)
theorem oraD : Statement (.oraD) :=
  of_opcode (op := 0xB2) 1 rfl rfl rfl (by decide)
theorem oraE : Statement (.oraE) :=
  of_opcode (op := 0xB3) 1 rfl rfl rfl (by decide)
theorem oraH : Statement (.oraH) :=
  of_opcode (op := 0xB4) 1 rfl rfl rfl (by decide)
theorem oraL : Statement (.oraL) :=
  of_opcode (op := 0xB5) 1 rfl rfl rfl (by decide)
theorem oraA : Statement (.oraA) :=
  of_opcode (op := 0xB7) 1 rfl rfl rfl (by decide)
theorem oraM : Statement (.oraM) :=
  of_opcode (op := 0xB6) 1 rfl rfl rfl (by decide)
theorem ori (d8 : Byte) : Statement (.ori d8) :=
  of_opcode (op := 0xF6) 2 rfl rfl rfl (by decide)
theorem cmpB : Statement (.cmpB) :=
  of_opcode (op := 0xB8) 1 rfl rfl rfl (by decide)
theorem cmpC : Statement (.cmpC) :=
  of_opcode (op := 0xB9) 1 rfl rfl rfl (by decide)
theorem cmpD : Statement (.cmpD) :=
  of_opcode (op := 0xBA) 1 rfl rfl rfl (by decide)
theorem cmpE : Statement (.cmpE) :=
  of_opcode (op := 0xBB) 1 rfl rfl rfl (by decide)
theorem cmpH : Statement (.cmpH) :=
  of_opcode (op := 0xBC) 1 rfl rfl rfl (by decide)
theorem cmpL : Statement (.cmpL) :=
  of_opcode (op := 0xBD) 1 rfl rfl rfl (by decide)
theorem cmpA : Statement (.cmpA) :=
  of_opcode (op := 0xBF) 1 rfl rfl rfl (by decide)
theorem cmpM : Statement (.cmpM) :=
  of_opcode (op := 0xBE) 1 rfl rfl rfl (by decide)
theorem cpi (d8 : Byte) : Statement (.cpi d8) :=
  of_opcode (op := 0xFE) 2 rfl rfl rfl (by decide)
theorem rlc : Statement (.rlc) :=
  of_opcode (op := 0x07) 1 rfl rfl rfl (by decide)
theorem rrc : Statement (.rrc) :=
  of_opcode (op := 0x0F) 1 rfl rfl rfl (by decide)
theorem ral : Statement (.ral) :=
  of_opcode (op := 0x17) 1 rfl rfl rfl (by decide)
theorem rar : Statement (.rar) :=
  of_opcode (op := 0x1F) 1 rfl rfl rfl (by decide)
theorem cma : Statement (.cma) :=
  of_opcode (op := 0x2F) 1 rfl rfl rfl (by decide)
theorem cmc : Statement (.cmc) :=
  of_opcode (op := 0x3F) 1 rfl rfl rfl (by decide)
theorem stc : Statement (.stc) :=
  of_opcode (op := 0x37) 1 rfl rfl rfl (by decide)
theorem jmp (a16 : Word) : Statement (.jmp a16) :=
  of_opcode (op := 0xC3) 3 rfl rfl rfl (by decide)
theorem jnz (a16 : Word) : Statement (.jnz a16) :=
  of_opcode (op := 0xC2) 3 rfl rfl rfl (by decide)
theorem jz (a16 : Word) : Statement (.jz a16) :=
  of_opcode (op := 0xCA) 3 rfl rfl rfl (by decide)
theorem jnc (a16 : Word) : Statement (.jnc a16) :=
  of_opcode (op := 0xD2) 3 rfl rfl rfl (by decide)
theorem jc (a16 : Word) : Statement (.jc a16) :=
  of_opcode (op := 0xDA) 3 rfl rfl rfl (by decide)
theorem jpo (a16 : Word) : Statement (.jpo a16) :=
  of_opcode (op := 0xE2) 3 rfl rfl rfl (by decide)
theorem jpe (a16 : Word) : Statement (.jpe a16) :=
  of_opcode (op := 0xEA) 3 rfl rfl rfl (by decide)
theorem jp (a16 : Word) : Statement (.jp a16) :=
  of_opcode (op := 0xF2) 3 rfl rfl rfl (by decide)
theorem jm (a16 : Word) : Statement (.jm a16) :=
  of_opcode (op := 0xFA) 3 rfl rfl rfl (by decide)
theorem call (a16 : Word) : Statement (.call a16) :=
  of_opcode (op := 0xCD) 3 rfl rfl rfl (by decide)
theorem cnz (a16 : Word) : Statement (.cnz a16) :=
  of_opcode (op := 0xC4) 3 rfl rfl rfl (by decide)
theorem cz (a16 : Word) : Statement (.cz a16) :=
  of_opcode (op := 0xCC) 3 rfl rfl rfl (by decide)
theorem cnc (a16 : Word) : Statement (.cnc a16) :=
  of_opcode (op := 0xD4) 3 rfl rfl rfl (by decide)
theorem cc (a16 : Word) : Statement (.cc a16) :=
  of_opcode (op := 0xDC) 3 rfl rfl rfl (by decide)
theorem cpo (a16 : Word) : Statement (.cpo a16) :=
  of_opcode (op := 0xE4) 3 rfl rfl rfl (by decide)
theorem cpe (a16 : Word) : Statement (.cpe a16) :=
  of_opcode (op := 0xEC) 3 rfl rfl rfl (by decide)
theorem cp (a16 : Word) : Statement (.cp a16) :=
  of_opcode (op := 0xF4) 3 rfl rfl rfl (by decide)
theorem cm (a16 : Word) : Statement (.cm a16) :=
  of_opcode (op := 0xFC) 3 rfl rfl rfl (by decide)
theorem ret : Statement (.ret) :=
  of_opcode (op := 0xC9) 1 rfl rfl rfl (by decide)
theorem rnz : Statement (.rnz) :=
  of_opcode (op := 0xC0) 1 rfl rfl rfl (by decide)
theorem rz : Statement (.rz) :=
  of_opcode (op := 0xC8) 1 rfl rfl rfl (by decide)
theorem rnc : Statement (.rnc) :=
  of_opcode (op := 0xD0) 1 rfl rfl rfl (by decide)
theorem rc : Statement (.rc) :=
  of_opcode (op := 0xD8) 1 rfl rfl rfl (by decide)
theorem rpo : Statement (.rpo) :=
  of_opcode (op := 0xE0) 1 rfl rfl rfl (by decide)
theorem rpe : Statement (.rpe) :=
  of_opcode (op := 0xE8) 1 rfl rfl rfl (by decide)
theorem rp : Statement (.rp) :=
  of_opcode (op := 0xF0) 1 rfl rfl rfl (by decide)
theorem rm : Statement (.rm) :=
  of_opcode (op := 0xF8) 1 rfl rfl rfl (by decide)
theorem rst0 : Statement (.rst0) :=
  of_opcode (op := 0xC7) 1 rfl rfl rfl (by decide)
theorem rst1 : Statement (.rst1) :=
  of_opcode (op := 0xCF) 1 rfl rfl rfl (by decide)
theorem rst2 : Statement (.rst2) :=
  of_opcode (op := 0xD7) 1 rfl rfl rfl (by decide)
theorem rst3 : Statement (.rst3) :=
  of_opcode (op := 0xDF) 1 rfl rfl rfl (by decide)
theorem rst4 : Statement (.rst4) :=
  of_opcode (op := 0xE7) 1 rfl rfl rfl (by decide)
theorem rst5 : Statement (.rst5) :=
  of_opcode (op := 0xEF) 1 rfl rfl rfl (by decide)
theorem rst6 : Statement (.rst6) :=
  of_opcode (op := 0xF7) 1 rfl rfl rfl (by decide)
theorem rst7 : Statement (.rst7) :=
  of_opcode (op := 0xFF) 1 rfl rfl rfl (by decide)
theorem pchl : Statement (.pchl) :=
  of_opcode (op := 0xE9) 1 rfl rfl rfl (by decide)
theorem jmpCB (a16 : Word) : Statement (.jmpCB a16) :=
  of_opcode (op := 0xCB) 3 rfl rfl rfl (by decide)
theorem retD9 : Statement (.retD9) :=
  of_opcode (op := 0xD9) 1 rfl rfl rfl (by decide)
theorem callDD (a16 : Word) : Statement (.callDD a16) :=
  of_opcode (op := 0xDD) 3 rfl rfl rfl (by decide)
theorem callED (a16 : Word) : Statement (.callED a16) :=
  of_opcode (op := 0xED) 3 rfl rfl rfl (by decide)
theorem callFD (a16 : Word) : Statement (.callFD a16) :=
  of_opcode (op := 0xFD) 3 rfl rfl rfl (by decide)
theorem inPort (p : Byte) : Statement (.inPort p) :=
  of_opcode (op := 0xDB) 2 rfl rfl rfl (by decide)
theorem outPort (p : Byte) : Statement (.outPort p) :=
  of_opcode (op := 0xD3) 2 rfl rfl rfl (by decide)
theorem pushB : Statement (.pushB) :=
  of_opcode (op := 0xC5) 1 rfl rfl rfl (by decide)
theorem pushD : Statement (.pushD) :=
  of_opcode (op := 0xD5) 1 rfl rfl rfl (by decide)
theorem pushH : Statement (.pushH) :=
  of_opcode (op := 0xE5) 1 rfl rfl rfl (by decide)
theorem pushPSW : Statement (.pushPSW) :=
  of_opcode (op := 0xF5) 1 rfl rfl rfl (by decide)
theorem popB : Statement (.popB) :=
  of_opcode (op := 0xC1) 1 rfl rfl rfl (by decide)
theorem popD : Statement (.popD) :=
  of_opcode (op := 0xD1) 1 rfl rfl rfl (by decide)
theorem popH : Statement (.popH) :=
  of_opcode (op := 0xE1) 1 rfl rfl rfl (by decide)
theorem popPSW : Statement (.popPSW) :=
  of_opcode (op := 0xF1) 1 rfl rfl rfl (by decide)
theorem xthl : Statement (.xthl) :=
  of_opcode (op := 0xE3) 1 rfl rfl rfl (by decide)
theorem sphl : Statement (.sphl) :=
  of_opcode (op := 0xF9) 1 rfl rfl rfl (by decide)
theorem ei : Statement (.ei) :=
  of_opcode (op := 0xFB) 1 rfl rfl rfl (by decide)
theorem di : Statement (.di) :=
  of_opcode (op := 0xF3) 1 rfl rfl rfl (by decide)
theorem hlt : Statement (.hlt) :=
  of_opcode (op := 0x76) 1 rfl rfl rfl (by decide)
theorem nop : Statement (.nop) :=
  of_opcode (op := 0x00) 1 rfl rfl rfl (by decide)
theorem nop08 : Statement (.nop08) :=
  of_opcode (op := 0x08) 1 rfl rfl rfl (by decide)
theorem nop10 : Statement (.nop10) :=
  of_opcode (op := 0x10) 1 rfl rfl rfl (by decide)
theorem nop18 : Statement (.nop18) :=
  of_opcode (op := 0x18) 1 rfl rfl rfl (by decide)
theorem nop20 : Statement (.nop20) :=
  of_opcode (op := 0x20) 1 rfl rfl rfl (by decide)
theorem nop28 : Statement (.nop28) :=
  of_opcode (op := 0x28) 1 rfl rfl rfl (by decide)
theorem nop30 : Statement (.nop30) :=
  of_opcode (op := 0x30) 1 rfl rfl rfl (by decide)
theorem nop38 : Statement (.nop38) :=
  of_opcode (op := 0x38) 1 rfl rfl rfl (by decide)

end Sys2Proof.Laws.EncodingLength
end

