-- ==== Sys2Proof/Laws/Step.lean ====
section
/-! SUPPORT. What a step and an event of the host can do, said once. -/

namespace Sys2Proof.Machine

/-- Everything a step that answers a next state can have done: nothing at the end of the program, the fault of an
opcode without a handler, or the instruction at PC (41_sequencer.md R100). -/
theorem step_cases {s t : State} (h : step s = .next t) :
    s.run = .running ∧
      ((s.pastProgramEnd = true ∧ t = s) ∨
       (s.pastProgramEnd = false ∧ s.implements s.fetchOpcode = false ∧
          t = s.raiseFaulted .unimplementedOpcode s.pc s.fetchOpcode) ∨
       (s.pastProgramEnd = false ∧ s.implements s.fetchOpcode = true ∧ exec s.fetchInstr s = .next t)) := by
  unfold step at h
  split at h
  · next hr =>
    refine ⟨hr, ?_⟩
    unfold State.runStep at h
    split at h
    · next hp => cases h; exact .inl ⟨hp, rfl⟩
    · next hp =>
      split at h
      · next hi => exact .inr (.inr ⟨by simpa using hp, hi, h⟩)
      · next hi => cases h; exact .inr (.inl ⟨by simpa using hp, by simpa using hi, rfl⟩)
  · cases h
  · cases h

/-- A running machine's step is runStep. -/
theorem step_running {s : State} (h : s.run = .running) : step s = s.runStep := by
  unfold step
  rw [h]

/-- Everything a reset event that answers a next state can have done: a fresh state for the parameters, or that and the
load of a well-formed setup (70_reset_and_hazards.md R300; 20_memory.md R51). -/
theorem resetTo_cases {s t : State} {load : Option Setup} (h : s.resetTo load = .next t) :
    (load = none ∧ t = s.renew) ∨ (∃ p, load = some p ∧ p.wf = true ∧ t = s.renew.loadSetup p) := by
  cases load with
  | none => cases h; exact .inl ⟨rfl, rfl⟩
  | some p =>
    simp only [State.resetTo] at h
    split at h
    · next h1 =>
      split at h
      · next h2 => cases h; exact .inr ⟨p, rfl, by simp [Setup.wf, h1, h2], rfl⟩
      · cases h
    · cases h

/-- A reset with a well-formed load answers that load on a fresh state. -/
theorem resetTo_some {p : Setup} (h : p.wf = true) (s : State) : s.resetTo (some p) = .next (s.renew.loadSetup p) := by
  obtain ⟨h1, h2⟩ := Bool.and_eq_true_iff.mp h
  simp only [State.resetTo, h1, h2, if_true]

end Sys2Proof.Machine
end

