-- ==== Sys2Proof/Tests/Slice0.lean ====
section
/-! SUPPORT. Tests. Expected results are the spec's: the words of the decode tests are written out from the encodings of
30_encoding.md R65 to R70 and spec/opcode_table.json, the single steps are vectors of spec/95_test_vectors.md (the id of
each stands in its docstring). The witnesses at the end meet the hypotheses of the obligations. -/

namespace Sys2Proof.Tests

open Sys2Proof.Machine

/-! Well-formed setups and builds: one ill-formed term for each check. -/

theorem test_image_past_memory_does_not_fit : Setup.imageFits { loadBase := 0xFFFF, image := [0x00, 0x00] } = false := by decide
theorem test_image_up_to_the_top_fits : Setup.wf { loadBase := 0xFFFF, image := [0x00] } = true := by decide
theorem test_progEnd_out_of_range : Setup.progEndInRange { progEnd := some 65537 } = false := by decide
theorem test_setup_wf_needs_progEnd : Setup.wf { image := [0x00], progEnd := some 65537 } = false := by decide
theorem test_setup_wf_needs_fit : Setup.wf { loadBase := 0xFFFE, image := [0x00, 0x00, 0x00] } = false := by decide
theorem test_build_progEnd_out_of_range : Build.wf { unimplemented := [], progEnd := 65537 } = false := by decide
theorem test_build_progEnd_in_range : Build.wf { unimplemented := [0xFF], progEnd := 65536 } = true := by decide

/-! Decoding: every opcode's word, a row of the map at a time. -/

/-- The instruction a list of bytes holds with nothing left over. -/
def decoded (bytes : List Byte) : Option Instr :=
  match decode bytes with
  | .ok (i, []) => some i
  | _ => none

/-- Opcodes 0x00 to 0x0F. -/
theorem test_decode_row_0 : (
    [[0b00000000], [0b00000001, 0x34, 0x12], [0b00000010], [0b00000011],
     [0b00000100], [0b00000101], [0b00000110, 0x5A], [0b00000111],
     [0b00001000], [0b00001001], [0b00001010], [0b00001011],
     [0b00001100], [0b00001101], [0b00001110, 0x5A], [0b00001111]] : List (List Byte)).map decoded = (
    [.nop, .lxiB 0x1234, .staxB, .inxB, .inrB, .dcrB, .mviB 0x5A, .rlc,
     .nop08, .dadB, .ldaxB, .dcxB, .inrC, .dcrC, .mviC 0x5A, .rrc] : List Instr).map some := by decide

/-- Opcodes 0x10 to 0x1F. -/
theorem test_decode_row_1 : (
    [[0b00010000], [0b00010001, 0x34, 0x12], [0b00010010], [0b00010011],
     [0b00010100], [0b00010101], [0b00010110, 0x5A], [0b00010111],
     [0b00011000], [0b00011001], [0b00011010], [0b00011011],
     [0b00011100], [0b00011101], [0b00011110, 0x5A], [0b00011111]] : List (List Byte)).map decoded = (
    [.nop10, .lxiD 0x1234, .staxD, .inxD, .inrD, .dcrD, .mviD 0x5A, .ral,
     .nop18, .dadD, .ldaxD, .dcxD, .inrE, .dcrE, .mviE 0x5A, .rar] : List Instr).map some := by decide

/-- Opcodes 0x20 to 0x2F. -/
theorem test_decode_row_2 : (
    [[0b00100000], [0b00100001, 0x34, 0x12], [0b00100010, 0x34, 0x12], [0b00100011],
     [0b00100100], [0b00100101], [0b00100110, 0x5A], [0b00100111],
     [0b00101000], [0b00101001], [0b00101010, 0x34, 0x12], [0b00101011],
     [0b00101100], [0b00101101], [0b00101110, 0x5A], [0b00101111]] : List (List Byte)).map decoded = (
    [.nop20, .lxiH 0x1234, .shld 0x1234, .inxH, .inrH, .dcrH, .mviH 0x5A, .daa,
     .nop28, .dadH, .lhld 0x1234, .dcxH, .inrL, .dcrL, .mviL 0x5A, .cma] : List Instr).map some := by decide

/-- Opcodes 0x30 to 0x3F. -/
theorem test_decode_row_3 : (
    [[0b00110000], [0b00110001, 0x34, 0x12], [0b00110010, 0x34, 0x12], [0b00110011],
     [0b00110100], [0b00110101], [0b00110110, 0x5A], [0b00110111],
     [0b00111000], [0b00111001], [0b00111010, 0x34, 0x12], [0b00111011],
     [0b00111100], [0b00111101], [0b00111110, 0x5A], [0b00111111]] : List (List Byte)).map decoded = (
    [.nop30, .lxiSP 0x1234, .sta 0x1234, .inxSP, .inrM, .dcrM, .mviM 0x5A, .stc,
     .nop38, .dadSP, .lda 0x1234, .dcxSP, .inrA, .dcrA, .mviA 0x5A, .cmc] : List Instr).map some := by decide

/-- Opcodes 0x40 to 0x4F. -/
theorem test_decode_row_4 : (
    [[0b01000000], [0b01000001], [0b01000010], [0b01000011],
     [0b01000100], [0b01000101], [0b01000110], [0b01000111],
     [0b01001000], [0b01001001], [0b01001010], [0b01001011],
     [0b01001100], [0b01001101], [0b01001110], [0b01001111]] : List (List Byte)).map decoded = (
    [.movBB, .movBC, .movBD, .movBE, .movBH, .movBL, .movBM, .movBA,
     .movCB, .movCC, .movCD, .movCE, .movCH, .movCL, .movCM, .movCA] : List Instr).map some := by decide

/-- Opcodes 0x50 to 0x5F. -/
theorem test_decode_row_5 : (
    [[0b01010000], [0b01010001], [0b01010010], [0b01010011],
     [0b01010100], [0b01010101], [0b01010110], [0b01010111],
     [0b01011000], [0b01011001], [0b01011010], [0b01011011],
     [0b01011100], [0b01011101], [0b01011110], [0b01011111]] : List (List Byte)).map decoded = (
    [.movDB, .movDC, .movDD, .movDE, .movDH, .movDL, .movDM, .movDA,
     .movEB, .movEC, .movED, .movEE, .movEH, .movEL, .movEM, .movEA] : List Instr).map some := by decide

/-- Opcodes 0x60 to 0x6F. -/
theorem test_decode_row_6 : (
    [[0b01100000], [0b01100001], [0b01100010], [0b01100011],
     [0b01100100], [0b01100101], [0b01100110], [0b01100111],
     [0b01101000], [0b01101001], [0b01101010], [0b01101011],
     [0b01101100], [0b01101101], [0b01101110], [0b01101111]] : List (List Byte)).map decoded = (
    [.movHB, .movHC, .movHD, .movHE, .movHH, .movHL, .movHM, .movHA,
     .movLB, .movLC, .movLD, .movLE, .movLH, .movLL, .movLM, .movLA] : List Instr).map some := by decide

/-- Opcodes 0x70 to 0x7F. -/
theorem test_decode_row_7 : (
    [[0b01110000], [0b01110001], [0b01110010], [0b01110011],
     [0b01110100], [0b01110101], [0b01110110], [0b01110111],
     [0b01111000], [0b01111001], [0b01111010], [0b01111011],
     [0b01111100], [0b01111101], [0b01111110], [0b01111111]] : List (List Byte)).map decoded = (
    [.movMB, .movMC, .movMD, .movME, .movMH, .movML, .hlt, .movMA,
     .movAB, .movAC, .movAD, .movAE, .movAH, .movAL, .movAM, .movAA] : List Instr).map some := by decide

/-- Opcodes 0x80 to 0x8F. -/
theorem test_decode_row_8 : (
    [[0b10000000], [0b10000001], [0b10000010], [0b10000011],
     [0b10000100], [0b10000101], [0b10000110], [0b10000111],
     [0b10001000], [0b10001001], [0b10001010], [0b10001011],
     [0b10001100], [0b10001101], [0b10001110], [0b10001111]] : List (List Byte)).map decoded = (
    [.addB, .addC, .addD, .addE, .addH, .addL, .addM, .addA,
     .adcB, .adcC, .adcD, .adcE, .adcH, .adcL, .adcM, .adcA] : List Instr).map some := by decide

/-- Opcodes 0x90 to 0x9F. -/
theorem test_decode_row_9 : (
    [[0b10010000], [0b10010001], [0b10010010], [0b10010011],
     [0b10010100], [0b10010101], [0b10010110], [0b10010111],
     [0b10011000], [0b10011001], [0b10011010], [0b10011011],
     [0b10011100], [0b10011101], [0b10011110], [0b10011111]] : List (List Byte)).map decoded = (
    [.subB, .subC, .subD, .subE, .subH, .subL, .subM, .subA,
     .sbbB, .sbbC, .sbbD, .sbbE, .sbbH, .sbbL, .sbbM, .sbbA] : List Instr).map some := by decide

/-- Opcodes 0xA0 to 0xAF. -/
theorem test_decode_row_A : (
    [[0b10100000], [0b10100001], [0b10100010], [0b10100011],
     [0b10100100], [0b10100101], [0b10100110], [0b10100111],
     [0b10101000], [0b10101001], [0b10101010], [0b10101011],
     [0b10101100], [0b10101101], [0b10101110], [0b10101111]] : List (List Byte)).map decoded = (
    [.anaB, .anaC, .anaD, .anaE, .anaH, .anaL, .anaM, .anaA,
     .xraB, .xraC, .xraD, .xraE, .xraH, .xraL, .xraM, .xraA] : List Instr).map some := by decide

/-- Opcodes 0xB0 to 0xBF. -/
theorem test_decode_row_B : (
    [[0b10110000], [0b10110001], [0b10110010], [0b10110011],
     [0b10110100], [0b10110101], [0b10110110], [0b10110111],
     [0b10111000], [0b10111001], [0b10111010], [0b10111011],
     [0b10111100], [0b10111101], [0b10111110], [0b10111111]] : List (List Byte)).map decoded = (
    [.oraB, .oraC, .oraD, .oraE, .oraH, .oraL, .oraM, .oraA,
     .cmpB, .cmpC, .cmpD, .cmpE, .cmpH, .cmpL, .cmpM, .cmpA] : List Instr).map some := by decide

/-- Opcodes 0xC0 to 0xCF. -/
theorem test_decode_row_C : (
    [[0b11000000], [0b11000001], [0b11000010, 0x34, 0x12], [0b11000011, 0x34, 0x12],
     [0b11000100, 0x34, 0x12], [0b11000101], [0b11000110, 0x5A], [0b11000111],
     [0b11001000], [0b11001001], [0b11001010, 0x34, 0x12], [0b11001011, 0x34, 0x12],
     [0b11001100, 0x34, 0x12], [0b11001101, 0x34, 0x12], [0b11001110, 0x5A], [0b11001111]] : List (List Byte)).map decoded = (
    [.rnz, .popB, .jnz 0x1234, .jmp 0x1234, .cnz 0x1234, .pushB, .adi 0x5A, .rst0,
     .rz, .ret, .jz 0x1234, .jmpCB 0x1234, .cz 0x1234, .call 0x1234, .aci 0x5A, .rst1] : List Instr).map some := by decide

/-- Opcodes 0xD0 to 0xDF. -/
theorem test_decode_row_D : (
    [[0b11010000], [0b11010001], [0b11010010, 0x34, 0x12], [0b11010011, 0x5A],
     [0b11010100, 0x34, 0x12], [0b11010101], [0b11010110, 0x5A], [0b11010111],
     [0b11011000], [0b11011001], [0b11011010, 0x34, 0x12], [0b11011011, 0x5A],
     [0b11011100, 0x34, 0x12], [0b11011101, 0x34, 0x12], [0b11011110, 0x5A], [0b11011111]] : List (List Byte)).map decoded = (
    [.rnc, .popD, .jnc 0x1234, .outPort 0x5A, .cnc 0x1234, .pushD, .sui 0x5A, .rst2,
     .rc, .retD9, .jc 0x1234, .inPort 0x5A, .cc 0x1234, .callDD 0x1234, .sbi 0x5A, .rst3] : List Instr).map some := by decide

/-- Opcodes 0xE0 to 0xEF. -/
theorem test_decode_row_E : (
    [[0b11100000], [0b11100001], [0b11100010, 0x34, 0x12], [0b11100011],
     [0b11100100, 0x34, 0x12], [0b11100101], [0b11100110, 0x5A], [0b11100111],
     [0b11101000], [0b11101001], [0b11101010, 0x34, 0x12], [0b11101011],
     [0b11101100, 0x34, 0x12], [0b11101101, 0x34, 0x12], [0b11101110, 0x5A], [0b11101111]] : List (List Byte)).map decoded = (
    [.rpo, .popH, .jpo 0x1234, .xthl, .cpo 0x1234, .pushH, .ani 0x5A, .rst4,
     .rpe, .pchl, .jpe 0x1234, .xchg, .cpe 0x1234, .callED 0x1234, .xri 0x5A, .rst5] : List Instr).map some := by decide

/-- Opcodes 0xF0 to 0xFF. -/
theorem test_decode_row_F : (
    [[0b11110000], [0b11110001], [0b11110010, 0x34, 0x12], [0b11110011],
     [0b11110100, 0x34, 0x12], [0b11110101], [0b11110110, 0x5A], [0b11110111],
     [0b11111000], [0b11111001], [0b11111010, 0x34, 0x12], [0b11111011],
     [0b11111100, 0x34, 0x12], [0b11111101, 0x34, 0x12], [0b11111110, 0x5A], [0b11111111]] : List (List Byte)).map decoded = (
    [.rp, .popPSW, .jp 0x1234, .di, .cp 0x1234, .pushPSW, .ori 0x5A, .rst6,
     .rm, .sphl, .jm 0x1234, .ei, .cm 0x1234, .callFD 0x1234, .cpi 0x5A, .rst7] : List Instr).map some := by decide

theorem test_decode_empty : decoded [] = none := by decide
theorem test_decode_missing_operand : decoded [0b11000011, 0x34] = none := by decide
theorem test_table_word_of_one_byte : decodeTableWord 8 0xFD = some (.callFD 0x0000) := by decide
theorem test_table_word_of_three_bytes : decodeTableWord 24 0x1234C3 = some (.jmp 0x1234) := by decide

/-! Single steps. -/

/-- Reset with bytes at an address, PC there, and the end-of-program test switched off. -/
def placed (at_ : Word) (bytes : List Byte) : State :=
  { State.reset with
    pc := at_
    mem := Memory.load [] at_.toNat bytes
    build := { unimplemented := [], progEnd := 65536 } }

/-- The register A to L at 0. -/
def zero : Regs := State.reset.regs

/-- The flags Z, S, P, CY, AC. -/
def zspca (z s p cy ac : Bool) : Flags := { z := z, s := s, p := p, cy := cy, ac := ac }

/-- The state a step leads to. -/
def after (s : State) : Option State :=
  match step s with
  | .next t => some t
  | .fault _ => none
  | .refused _ => none

/-- T1. -/
theorem test_mov_b_c : (after { placed 0x0000 [0x41] with
    regs := { zero with b := 0x12, c := 0x34 }
    flags := (zspca true true true true true) }).map
    (fun t => (t.regs.b, t.regs.c, t.pc, t.flags)) =
    some (0x34, 0x34, 0x0001, (zspca true true true true true)) := by decide

/-- T3. -/
theorem test_mov_h_m_uses_old_hl : (after { (placed 0x0000 [0x66]).writeByte 0x2010 0x30 with
    regs := { zero with h := 0x20, l := 0x10 } }).map
    (fun t => (t.regs.h, t.regs.l, t.pc)) =
    some (0x30, 0x10, 0x0001) := by decide

/-- T4. -/
theorem test_mov_m_l : (after { placed 0x0000 [0x75] with
    regs := { zero with h := 0x20, l := 0x10 } }).map
    (fun t => (t.readByte 0x2010, t.pc)) =
    some (0x10, 0x0001) := by decide

/-- T5. -/
theorem test_mvi_e : (after (placed 0x0000 [0x1E, 0xFF])).map
    (fun t => (t.regs.e, t.pc)) =
    some (0xFF, 0x0002) := by decide

/-- T6. -/
theorem test_mvi_m : (after { placed 0x0000 [0x36, 0x7B] with
    regs := { zero with h := 0x12, l := 0x34 } }).map
    (fun t => (t.readByte 0x1234, t.pc)) =
    some (0x7B, 0x0002) := by decide

/-- T7. -/
theorem test_lxi_sp : (after (placed 0x0000 [0x31, 0xEF, 0xBE])).map
    (fun t => (t.sp, t.pc)) =
    some (0xBEEF, 0x0003) := by decide

/-- T8. -/
theorem test_lxi_h : (after (placed 0x0000 [0x21, 0x03, 0x01])).map
    (fun t => (t.regs.h, t.regs.l, t.pc)) =
    some (0x01, 0x03, 0x0003) := by decide

/-- E2. -/
theorem test_lxi_b : (after (placed 0x0000 [0x01, 0x00, 0x02])).map
    (fun t => (t.regs.b, t.regs.c, t.pc)) =
    some (0x02, 0x00, 0x0003) := by decide

/-- T9. -/
theorem test_lda_top_of_memory : (after ((placed 0x0000 [0x3A, 0xFF, 0xFF]).writeByte 0xFFFF 0x99)).map
    (fun t => (t.regs.a, t.pc)) =
    some (0x99, 0x0003) := by decide

/-- T10. -/
theorem test_sta_over_itself : (after { placed 0x0000 [0x32, 0x00, 0x00] with
    regs := { zero with a := 0x42 } }).map
    (fun t => (t.readByte 0x0000, t.pc)) =
    some (0x42, 0x0003) := by decide

/-- T11. -/
theorem test_lhld_wraps : (after ((placed 0x0000 [0x2A, 0xFF, 0xFF]).writeByte 0xFFFF 0xCD)).map
    (fun t => (t.regs.l, t.regs.h, t.pc)) =
    some (0xCD, 0x2A, 0x0003) := by decide

/-- T12. -/
theorem test_shld_wraps : (after { placed 0x0000 [0x22, 0xFF, 0xFF] with
    regs := { zero with h := 0xAB, l := 0xCD } }).map
    (fun t => (t.readByte 0xFFFF, t.readByte 0x0000, t.pc)) =
    some (0xCD, 0xAB, 0x0003) := by decide

/-- T13. -/
theorem test_ldax_d : (after { (placed 0x0000 [0x1A]).writeByte 0x938B 0x77 with
    regs := { zero with d := 0x93, e := 0x8B } }).map
    (fun t => (t.regs.a, t.pc)) =
    some (0x77, 0x0001) := by decide

/-- T14. -/
theorem test_stax_b : (after { placed 0x0000 [0x02] with
    regs := { zero with a := 0x5F, b := 0x3F, c := 0x16 } }).map
    (fun t => (t.readByte 0x3F16, t.pc)) =
    some (0x5F, 0x0001) := by decide

/-- T15. -/
theorem test_xchg : (after { placed 0x0000 [0xEB] with
    regs := { zero with d := 0x33, e := 0x55, h := 0x00, l := 0xFF } }).map
    (fun t => (t.regs.d, t.regs.e, t.regs.h, t.regs.l, t.pc)) =
    some (0x00, 0xFF, 0x33, 0x55, 0x0001) := by decide

/-- A1. -/
theorem test_add_d : (after { placed 0x0000 [0x82] with
    regs := { zero with a := 0x6C, d := 0x2E } }).map
    (fun t => (t.regs.a, t.flags, t.pc)) =
    some (0x9A, (zspca false true true false true), 0x0001) := by decide

/-- A3. -/
theorem test_add_m_wraps : (after { (placed 0x0000 [0x86]).writeByte 0x0100 0x01 with
    regs := { zero with a := 0xFF, h := 0x01, l := 0x00 } }).map
    (fun t => (t.regs.a, t.flags, t.pc)) =
    some (0x00, (zspca true false true true true), 0x0001) := by decide

/-- A4. -/
theorem test_adi : (after { placed 0x0000 [0xC6, 0x42] with
    regs := { zero with a := 0x14 } }).map
    (fun t => (t.regs.a, t.flags, t.pc)) =
    some (0x56, (zspca false false true false false), 0x0002) := by decide

/-- A5. -/
theorem test_adc_c_uses_carry : (after { placed 0x0000 [0x89] with
    regs := { zero with a := 0x42, c := 0x3D }
    flags := (zspca false false false true false) }).map
    (fun t => (t.regs.a, t.flags, t.pc)) =
    some (0x80, (zspca false true false false true), 0x0001) := by decide

/-- A6. -/
theorem test_aci_all_ones : (after { placed 0x0000 [0xCE, 0xFF] with
    regs := { zero with a := 0xFF }
    flags := (zspca false false false true false) }).map
    (fun t => (t.regs.a, t.flags, t.pc)) =
    some (0xFF, (zspca false true true true true), 0x0002) := by decide

/-- A7. -/
theorem test_sub_a_ignores_carry : (after { placed 0x0000 [0x97] with
    regs := { zero with a := 0x3E }
    flags := (zspca false false false true false) }).map
    (fun t => (t.regs.a, t.flags, t.pc)) =
    some (0x00, (zspca true false true false true), 0x0001) := by decide

/-- A8. -/
theorem test_sub_b_borrows : (after { placed 0x0000 [0x90] with
    regs := { zero with b := 0x01 } }).map
    (fun t => (t.regs.a, t.flags, t.pc)) =
    some (0xFF, (zspca false true true true false), 0x0001) := by decide

/-- R147. -/
theorem test_sub_m : (after { (placed 0x0000 [0x96]).writeByte 0x0010 0x0F with
    regs := { zero with a := 0x50, h := 0x00, l := 0x10 } }).map
    (fun t => (t.regs.a, t.flags, t.pc)) =
    some (0x41, (zspca false false true false false), 0x0001) := by decide

/-- A9. -/
theorem test_sui : (after (placed 0x0000 [0xD6, 0x01])).map
    (fun t => (t.regs.a, t.flags, t.pc)) =
    some (0xFF, (zspca false true true true false), 0x0002) := by decide

/-- A10. -/
theorem test_sbb_l : (after { placed 0x0000 [0x9D] with
    regs := { zero with a := 0x04, l := 0x02 }
    flags := (zspca false false false true false) }).map
    (fun t => (t.regs.a, t.flags, t.pc)) =
    some (0x01, (zspca false false false false true), 0x0001) := by decide

/-- A11. -/
theorem test_sbi_borrows_256 : (after { placed 0x0000 [0xDE, 0xFF] with
    flags := (zspca false false false true false) }).map
    (fun t => (t.regs.a, t.flags, t.pc)) =
    some (0x00, (zspca true false true true false), 0x0002) := by decide

/-- A12. -/
theorem test_inr_c_keeps_carry : (after { placed 0x0000 [0x0C] with
    regs := { zero with c := 0xFF }
    flags := (zspca false false false true false) }).map
    (fun t => (t.regs.c, t.flags, t.pc)) =
    some (0x00, (zspca true false true true true), 0x0001) := by decide

/-- A14. -/
theorem test_inr_m : (after { (placed 0x0000 [0x34]).writeByte 0x3000 0x7F with
    regs := { zero with h := 0x30 } }).map
    (fun t => (t.readByte 0x3000, t.flags, t.pc)) =
    some (0x80, (zspca false true false false true), 0x0001) := by decide

/-- A15. -/
theorem test_dcr_b_wraps_without_carry : (after (placed 0x0000 [0x05])).map
    (fun t => (t.regs.b, t.flags, t.pc)) =
    some (0xFF, (zspca false true true false false), 0x0001) := by decide

/-- A17. -/
theorem test_dcr_m : (after { (placed 0x0000 [0x35]).writeByte 0x3A7C 0x40 with
    regs := { zero with h := 0x3A, l := 0x7C } }).map
    (fun t => (t.readByte 0x3A7C, t.flags, t.pc)) =
    some (0x3F, (zspca false false true false false), 0x0001) := by decide

/-- A18. -/
theorem test_inx_d_carries_into_d : (after { placed 0x0000 [0x13] with
    regs := { zero with d := 0x38, e := 0xFF } }).map
    (fun t => (t.regs.d, t.regs.e, t.flags, t.pc)) =
    some (0x39, 0x00, (zspca false false false false false), 0x0001) := by decide

/-- A19. -/
theorem test_inx_sp_wraps : (after { placed 0x0000 [0x33] with
    sp := 0xFFFF }).map
    (fun t => (t.sp, t.flags, t.pc)) =
    some (0x0000, (zspca false false false false false), 0x0001) := by decide

/-- A20. -/
theorem test_dcx_h_wraps_without_flags : (after (placed 0x0000 [0x2B])).map
    (fun t => (t.regs.h, t.regs.l, t.flags, t.pc)) =
    some (0xFF, 0xFF, (zspca false false false false false), 0x0001) := by decide

/-- A22. -/
theorem test_dad_b : (after { placed 0x0000 [0x09] with
    regs := { zero with b := 0x33, c := 0x9F, h := 0xA1, l := 0x7B } }).map
    (fun t => (t.regs.h, t.regs.l, t.flags, t.pc)) =
    some (0xD5, 0x1A, (zspca false false false false false), 0x0001) := by decide

/-- A24. -/
theorem test_dad_sp_writes_carry_only : (after { placed 0x0000 [0x39] with
    regs := { zero with l := 0x01 }
    sp := 0xFFFF
    flags := (zspca true true true false true) }).map
    (fun t => (t.regs.h, t.regs.l, t.flags, t.pc)) =
    some (0x00, 0x00, (zspca true true true true true), 0x0001) := by decide

/-- A25. -/
theorem test_daa_both_corrections : (after { placed 0x0000 [0x27] with
    regs := { zero with a := 0x9B } }).map
    (fun t => (t.regs.a, t.flags, t.pc)) =
    some (0x01, (zspca false false false true true), 0x0001) := by decide

/-- A28. -/
theorem test_daa_keeps_carry : (after { placed 0x0000 [0x27] with
    regs := { zero with a := 0x12 }
    flags := (zspca false false false true false) }).map
    (fun t => (t.regs.a, t.flags, t.pc)) =
    some (0x72, (zspca false false true true false), 0x0001) := by decide

/-- L1. -/
theorem test_ana_c : (after { placed 0x0000 [0xA1] with
    regs := { zero with a := 0xFC, c := 0x0F }
    flags := (zspca false false false true false) }).map
    (fun t => (t.regs.a, t.flags, t.pc)) =
    some (0x0C, (zspca false false true false true), 0x0001) := by decide

/-- L4. -/
theorem test_ana_m_without_ac : (after { (placed 0x0000 [0xA6]).writeByte 0x1000 0xF7 with
    regs := { zero with a := 0xF7, h := 0x10 } }).map
    (fun t => (t.regs.a, t.flags, t.pc)) =
    some (0xF7, (zspca false true false false false), 0x0001) := by decide

/-- L3. -/
theorem test_ani : (after { placed 0x0000 [0xE6, 0x0F] with
    regs := { zero with a := 0x3A }
    flags := (zspca false false false true false) }).map
    (fun t => (t.regs.a, t.flags, t.pc)) =
    some (0x0A, (zspca false false true false true), 0x0002) := by decide

/-- L5. -/
theorem test_xra_a_clears : (after { placed 0x0000 [0xAF] with
    regs := { zero with a := 0x5C }
    flags := (zspca false false false true true) }).map
    (fun t => (t.regs.a, t.flags, t.pc)) =
    some (0x00, (zspca true false true false false), 0x0001) := by decide

/-- L7. -/
theorem test_xri : (after { placed 0x0000 [0xEE, 0x81] with
    regs := { zero with a := 0x3B }
    flags := (zspca false false false true false) }).map
    (fun t => (t.regs.a, t.flags, t.pc)) =
    some (0xBA, (zspca false true false false false), 0x0002) := by decide

/-- L8. -/
theorem test_ora_c : (after { placed 0x0000 [0xB1] with
    regs := { zero with a := 0x33, c := 0x0F }
    flags := (zspca false false false true true) }).map
    (fun t => (t.regs.a, t.flags, t.pc)) =
    some (0x3F, (zspca false false true false false), 0x0001) := by decide

/-- L9. -/
theorem test_ori : (after { placed 0x0000 [0xF6, 0x0F] with
    regs := { zero with a := 0xB5 } }).map
    (fun t => (t.regs.a, t.flags, t.pc)) =
    some (0xBF, (zspca false true false false false), 0x0002) := by decide

/-- L11. -/
theorem test_cmp_e_greater : (after { placed 0x0000 [0xBB] with
    regs := { zero with a := 0x0A, e := 0x05 } }).map
    (fun t => (t.regs.a, t.flags, t.pc)) =
    some (0x0A, (zspca false false true false true), 0x0001) := by decide

/-- L12. -/
theorem test_cmp_e_less : (after { placed 0x0000 [0xBB] with
    regs := { zero with a := 0x02, e := 0x05 } }).map
    (fun t => (t.regs.a, t.flags, t.pc)) =
    some (0x02, (zspca false true false true false), 0x0001) := by decide

/-- L14. -/
theorem test_cpi : (after { placed 0x0000 [0xFE, 0x40] with
    regs := { zero with a := 0x4A } }).map
    (fun t => (t.regs.a, t.flags, t.pc)) =
    some (0x4A, (zspca false false true false true), 0x0002) := by decide

/-- L16. -/
theorem test_rlc : (after { placed 0x0000 [0x07] with
    regs := { zero with a := 0xF2 } }).map
    (fun t => (t.regs.a, t.flags, t.pc)) =
    some (0xE5, (zspca false false false true false), 0x0001) := by decide

/-- L17. -/
theorem test_rrc : (after { placed 0x0000 [0x0F] with
    regs := { zero with a := 0xF2 }
    flags := (zspca false false false true false) }).map
    (fun t => (t.regs.a, t.flags, t.pc)) =
    some (0x79, (zspca false false false false false), 0x0001) := by decide

/-- L18. -/
theorem test_ral : (after { placed 0x0000 [0x17] with
    regs := { zero with a := 0xB5 } }).map
    (fun t => (t.regs.a, t.flags, t.pc)) =
    some (0x6A, (zspca false false false true false), 0x0001) := by decide

/-- L19. -/
theorem test_rar : (after { placed 0x0000 [0x1F] with
    regs := { zero with a := 0x6A }
    flags := (zspca false false false true false) }).map
    (fun t => (t.regs.a, t.flags, t.pc)) =
    some (0xB5, (zspca false false false false false), 0x0001) := by decide

/-- L20. -/
theorem test_cma_writes_no_flag : (after { placed 0x0000 [0x2F] with
    regs := { zero with a := 0x51 }
    flags := (zspca true false false true false) }).map
    (fun t => (t.regs.a, t.flags, t.pc)) =
    some (0xAE, (zspca true false false true false), 0x0001) := by decide

/-- L21. -/
theorem test_cmc_clears : (after { placed 0x0000 [0x3F] with
    flags := (zspca false false false true false) }).map
    (fun t => (t.flags, t.pc)) =
    some ((zspca false false false false false), 0x0001) := by decide

/-- L22. -/
theorem test_cmc_sets : (after (placed 0x0000 [0x3F])).map
    (fun t => (t.flags, t.pc)) =
    some ((zspca false false false true false), 0x0001) := by decide

/-- L23. -/
theorem test_stc : (after (placed 0x0000 [0x37])).map
    (fun t => (t.flags, t.pc)) =
    some ((zspca false false false true false), 0x0001) := by decide

/-- B3. -/
theorem test_jnz_taken : (after (placed 0x0000 [0xC2, 0x34, 0x12])).map
    (fun t => t.pc) =
    some 0x1234 := by decide

/-- B4. -/
theorem test_jnz_not_taken : (after { placed 0x0000 [0xC2, 0x34, 0x12] with
    flags := (zspca true false false false false) }).map
    (fun t => t.pc) =
    some 0x0003 := by decide

/-- B6. -/
theorem test_jpo_not_taken : (after { placed 0x0000 [0xE2, 0x00, 0x20] with
    flags := (zspca false false true false false) }).map
    (fun t => t.pc) =
    some 0x0003 := by decide

/-- B8. -/
theorem test_jp_not_taken : (after { placed 0x0000 [0xF2, 0x00, 0x20] with
    flags := (zspca false true false false false) }).map
    (fun t => t.pc) =
    some 0x0003 := by decide

/-- B5. -/
theorem test_jc_taken : (after { placed 0x0000 [0xDA, 0x00, 0x20] with
    flags := (zspca false false false true false) }).map
    (fun t => t.pc) =
    some 0x2000 := by decide

/-- B9. -/
theorem test_jm_taken : (after { placed 0x0000 [0xFA, 0x00, 0x20] with
    flags := (zspca false true false false false) }).map
    (fun t => t.pc) =
    some 0x2000 := by decide

/-- B11. -/
theorem test_call_wraps_onto_itself : (after { placed 0x0000 [0xCD, 0x00, 0x10] with
    sp := 0x0001 }).map
    (fun t => (t.pc, t.sp, t.readByte 0xFFFF, t.readByte 0x0000)) =
    some (0x1000, 0xFFFF, 0x03, 0x00) := by decide

/-- B12. -/
theorem test_call_overwrites_its_operands : (after { placed 0x0000 [0xCD, 0x00, 0x10] with
    sp := 0x0003 }).map
    (fun t => (t.pc, t.sp, t.readByte 0x0001, t.readByte 0x0002)) =
    some (0x1000, 0x0001, 0x03, 0x00) := by decide

/-- B13. -/
theorem test_cz_not_taken : (after { placed 0x0100 [0xCC, 0x00, 0x20] with
    sp := 0x2400 }).map
    (fun t => (t.pc, t.sp, t.readByte 0x23FE, t.readByte 0x23FF)) =
    some (0x0103, 0x2400, 0x00, 0x00) := by decide

/-- B15. -/
theorem test_cm_taken : (after { placed 0x0100 [0xFC, 0x00, 0x20] with
    sp := 0x2400
    flags := (zspca false true false false false) }).map
    (fun t => (t.pc, t.sp, t.readByte 0x23FE, t.readByte 0x23FF)) =
    some (0x2000, 0x23FE, 0x03, 0x01) := by decide

/-- B16. -/
theorem test_ret : (after { ((placed 0x1234 [0xC9]).writeByte 0x23FE 0x03).writeByte 0x23FF 0x01 with
    sp := 0x23FE }).map
    (fun t => (t.pc, t.sp)) =
    some (0x0103, 0x2400) := by decide

/-- B19. -/
theorem test_ret_wraps : (after { (placed 0x0000 [0xC9]).writeByte 0xFFFF 0x21 with
    sp := 0xFFFF }).map
    (fun t => (t.pc, t.sp)) =
    some (0xC921, 0x0001) := by decide

/-- B17. -/
theorem test_rc_not_taken : (after { ((placed 0x1234 [0xD8]).writeByte 0x23FE 0x03).writeByte 0x23FF 0x01 with
    sp := 0x23FE }).map
    (fun t => (t.pc, t.sp)) =
    some (0x1235, 0x23FE) := by decide

/-- B18. -/
theorem test_rc_taken : (after { ((placed 0x1234 [0xD8]).writeByte 0x23FE 0x03).writeByte 0x23FF 0x01 with
    sp := 0x23FE
    flags := (zspca false false false true false) }).map
    (fun t => (t.pc, t.sp)) =
    some (0x0103, 0x2400) := by decide

/-- B20. -/
theorem test_rst_3 : (after { placed 0x0200 [0xDF] with
    sp := 0x2400 }).map
    (fun t => (t.pc, t.sp, t.readByte 0x23FE, t.readByte 0x23FF)) =
    some (0x0018, 0x23FE, 0x01, 0x02) := by decide

/-- B23. -/
theorem test_pchl : (after { placed 0x0000 [0xE9] with
    regs := { zero with h := 0x41, l := 0x3E } }).map
    (fun t => t.pc) =
    some 0x413E := by decide

/-- B25. -/
theorem test_ret_d9 : (after { ((placed 0x1234 [0xD9]).writeByte 0x23FE 0x03).writeByte 0x23FF 0x01 with
    sp := 0x23FE }).map
    (fun t => (t.pc, t.sp)) =
    some (0x0103, 0x2400) := by decide

/-- B27. -/
theorem test_call_ed : (after { placed 0x0100 [0xED, 0x34, 0x12] with
    sp := 0x2400 }).map
    (fun t => (t.pc, t.sp, t.readByte 0x23FE, t.readByte 0x23FF)) =
    some (0x1234, 0x23FE, 0x03, 0x01) := by decide

/-- B29. -/
theorem test_jmp_across_the_top : (after ((placed 0xFFFE [0xC3, 0x34]).writeByte 0x0000 0x12)).map
    (fun t => t.pc) =
    some 0x1234 := by decide

/-- S2. -/
theorem test_push_h_wraps : (after { placed 0x0000 [0xE5] with
    regs := { zero with h := 0x12, l := 0x34 }
    sp := 0x0001 }).map
    (fun t => (t.sp, t.readByte 0x0000, t.readByte 0xFFFF, t.pc)) =
    some (0xFFFF, 0x12, 0x34, 0x0001) := by decide

/-- S3. -/
theorem test_push_psw : (after { placed 0x0000 [0xF5] with
    regs := { zero with a := 0x1F }
    sp := 0x502A
    flags := (zspca true false true true false) }).map
    (fun t => (t.sp, t.readByte 0x5028, t.readByte 0x5029, t.pc)) =
    some (0x5028, 0x47, 0x1F, 0x0001) := by decide

/-- S4. -/
theorem test_push_psw_all_flags : (after { placed 0x0000 [0xF5] with
    regs := { zero with a := 0xAA }
    sp := 0x0000
    flags := (zspca true true true true true) }).map
    (fun t => (t.sp, t.readByte 0xFFFE, t.readByte 0xFFFF, t.pc)) =
    some (0xFFFE, 0xD7, 0xAA, 0x0001) := by decide

/-- S6. -/
theorem test_pop_h : (after { ((placed 0x0000 [0xE1]).writeByte 0x1239 0x3D).writeByte 0x123A 0x93 with
    sp := 0x1239 }).map
    (fun t => (t.regs.h, t.regs.l, t.sp, t.pc)) =
    some (0x93, 0x3D, 0x123B, 0x0001) := by decide

/-- S7. -/
theorem test_pop_b_wraps : (after { (placed 0x0000 [0xC1]).writeByte 0xFFFF 0x11 with
    sp := 0xFFFF }).map
    (fun t => (t.regs.b, t.regs.c, t.sp, t.pc)) =
    some (0xC1, 0x11, 0x0001, 0x0001) := by decide

/-- S8. -/
theorem test_pop_psw : (after { ((placed 0x0000 [0xF1]).writeByte 0x2C00 0xC3).writeByte 0x2C01 0xFF with
    sp := 0x2C00 }).map
    (fun t => (t.regs.a, t.flags, t.sp, t.pc)) =
    some (0xFF, (zspca true true false true false), 0x2C02, 0x0001) := by decide

/-- S10. -/
theorem test_pop_psw_ignores_fixed_bits : (after { (placed 0x0000 [0xF1]).writeByte 0x2C00 0x28 with
    sp := 0x2C00
    flags := (zspca true true true true true) }).map
    (fun t => (t.regs.a, t.flags, t.sp, t.pc)) =
    some (0x00, (zspca false false false false false), 0x2C02, 0x0001) := by decide

/-- S11. -/
theorem test_xthl : (after { ((placed 0x0000 [0xE3]).writeByte 0x10AD 0xF0).writeByte 0x10AE 0x0D with
    regs := { zero with h := 0x0B, l := 0x3C }
    sp := 0x10AD }).map
    (fun t => (t.regs.h, t.regs.l, t.readByte 0x10AD, t.readByte 0x10AE, t.sp, t.pc)) =
    some (0x0D, 0xF0, 0x3C, 0x0B, 0x10AD, 0x0001) := by decide

/-- S12. -/
theorem test_sphl : (after { placed 0x0000 [0xF9] with
    regs := { zero with h := 0x50, l := 0x6C } }).map
    (fun t => (t.sp, t.pc)) =
    some (0x506C, 0x0001) := by decide

/-- S13. -/
theorem test_in_port : (after { placed 0x0000 [0xDB, 0x10] with
    ports := { inputs := [0x5A], events := [] } }).map
    (fun t => (t.regs.a, t.ports, t.pc)) =
    some (0x5A, { inputs := [], events := [.input 0x10 0x5A] }, 0x0002) := by decide

/-- S14. -/
theorem test_out_port : (after { placed 0x0000 [0xD3, 0x02] with
    regs := { zero with a := 0x7E } }).map
    (fun t => (t.regs.a, t.ports.events, t.pc)) =
    some (0x7E, [.output 0x02 0x7E], 0x0002) := by decide

/-- S15. -/
theorem test_ei : (after (placed 0x0000 [0xFB])).map
    (fun t => (t.ie, t.pc)) =
    some (true, 0x0001) := by decide

/-- S16. -/
theorem test_di : (after { placed 0x0000 [0xF3] with
    ie := true }).map
    (fun t => (t.ie, t.pc)) =
    some (false, 0x0001) := by decide

/-- S17. -/
theorem test_hlt : (after (placed 0x0000 [0x76])).map
    (fun t => (t.run, t.pc)) =
    some (.halted, 0x0001) := by decide

/-- S19. -/
theorem test_nop_duplicate : (after { placed 0x0000 [0x38] with
    regs := { zero with a := 0x11 }
    flags := (zspca true false false false false) }).map
    (fun t => (t.regs.a, t.flags, t.pc)) =
    some (0x11, (zspca true false false false false), 0x0001) := by decide

/-- Q2. -/
theorem test_unimplemented_opcode : (after { placed 0x0120 [0xCB, 0x00, 0x3E] with
    regs := { zero with a := 0x77 }
    sp := 0x2000
    build := { unimplemented := [0xCB], progEnd := 65536 } }).map
    (fun t => (t.run, t.pc, t.regs.a, t.sp)) =
    some (.faulted { reason := .unimplementedOpcode, addr := 0x0120, byte := 0xCB }, 0x0120, 0x77, 0x2000) := by decide

/-- Q3. -/
theorem test_pc_wraps : (after (placed 0xFFFF [0x00])).map
    (fun t => t.pc) =
    some 0x0000 := by decide

/-- Q4. -/
theorem test_operand_fetch_wraps : (after ((placed 0xFFFF [0x3E]).writeByte 0x0000 0x99)).map
    (fun t => (t.regs.a, t.pc)) =
    some (0x99, 0x0001) := by decide

/-- Q6, step 1. -/
theorem test_truncated_last_instruction : (after { placed 0x0000 [0x3E] with
    build := { unimplemented := [], progEnd := 1 } }).map
    (fun t => (t.regs.a, t.pc)) =
    some (0x00, 0x0002) := by decide

/-- Q7: at the end of the program nothing changes. -/
theorem test_end_of_program : after State.reset = some State.reset ∧ State.reset.status = .endOfProgram := by decide

/-- Q8, Q9: in Halted and Faulted no step is enabled. -/
theorem test_no_step_when_stopped :
    after { State.reset with run := .halted } = none ∧
    after { State.reset with run := .faulted { reason := .unimplementedOpcode, addr := 0, byte := 0xFF } } = none := by
  decide

/-- withFetchWord: the next step from reset runs the placed instruction. -/
theorem test_withFetchWord : (after (State.reset.withFetchWord 8 0x3E)).map (fun t => (t.regs.a, t.pc)) = some (0x00, 0x0002) := by
  decide
theorem test_withFetchWord_three_bytes : (after (State.reset.withFetchWord 24 0x1234C3)).map (fun t => t.pc) = some 0x1234 := by
  decide

/-! Interrupts and reset. -/

/-- The state of vector I1. -/
def interruptible : State := { placed 0x0150 [] with sp := 0x2400, ie := true }

/-- I1, I7. -/
theorem test_irq_accepted :
    (interruptible.irq 2).pc = 0x0010 ∧ (interruptible.irq 2).sp = 0x23FE ∧ (interruptible.irq 2).ie = false ∧
    (interruptible.irq 2).readByte 0x23FE = 0x50 ∧ (interruptible.irq 2).readByte 0x23FF = 0x01 ∧
    (interruptible.irq 2).irq 3 = interruptible.irq 2 := by decide

/-- I2, I5, I6. -/
theorem test_irq_ignored :
    { interruptible with ie := false }.irq 2 = { interruptible with ie := false } ∧
    { interruptible with run := .halted }.irq 1 = { interruptible with run := .halted } ∧
    { interruptible with build := { unimplemented := [], progEnd := 0x0150 } }.irq 1 =
      { interruptible with build := { unimplemented := [], progEnd := 0x0150 } } := by decide

/-- X1: reset and load from a faulted state. -/
theorem test_reset_and_load :
    State.renew { placed 0x0120 [0xCB] with run := .faulted { reason := .unimplementedOpcode, addr := 0x0120, byte := 0xCB } } =
      { State.reset with build := { unimplemented := [], progEnd := 65536 } } ∧
    (placed 0x0120 [0xCB]).renew.loadSetup { image := [0xFF, 0x01] } =
      { State.reset with mem := [(0, 0xFF), (1, 0x01)], build := { unimplemented := [], progEnd := 2 } } := by decide

/-- The machine of a build without a handler for 0xFF, with an image loaded. -/
def minimal (image : List Byte) : State :=
  (State.fresh { unimplemented := [0xFF], progEnd := 0 }).loadSetup { image := image }

/-- R300: reset keeps IMPLEMENTED, so the byte faults again after it (vector Q1). -/
theorem test_reset_keeps_the_build :
    ((minimal [0xFF]).renew.loadSetup { image := [0xFF] } = minimal [0xFF]) ∧
    (after (minimal [0xFF])).map (fun t => (t.run, t.pc)) =
      some (.faulted { reason := .unimplementedOpcode, addr := 0x0000, byte := 0xFF }, 0x0000) := by decide

/-- R300: reset takes the machine's RESET_REGS. -/
theorem test_reset_takes_reset_regs :
    (State.renew { State.reset with build := { unimplemented := [], resetRegs := { sp := 0x2400, z := true }, progEnd := 0 } }).sp =
      0x2400 ∧
    (State.renew { State.reset with build := { unimplemented := [], resetRegs := { sp := 0x2400, z := true }, progEnd := 0 } }).flags =
      zspca true false false false false := by decide

/-! Memory. -/

theorem test_write_keeps_the_order : Memory.write [(1, 0x11), (9, 0x99)] 5 0x55 = [(1, 0x11), (5, 0x55), (9, 0x99)] := by decide
theorem test_write_of_zero_removes_the_cell : Memory.write [(1, 0x11), (9, 0x99)] 9 0x00 = [(1, 0x11)] := by decide
theorem test_memory_out_of_order_is_not_canonical : Memory.wf [(9, 0x99), (1, 0x11)] = false := by decide
theorem test_memory_with_a_zero_cell_is_not_canonical : Memory.wf [(9, 0x00)] = false := by decide
theorem test_memory_past_the_top_is_not_canonical : Memory.wf [(65536, 0x01)] = false := by decide
theorem test_reset_memory_is_canonical : State.reset.mem.wf = true := by decide

/-! Witnesses: for every obligation with hypotheses, a state and operands that meet them together, at a boundary of
each clause. -/

theorem witness_EncodeUndoesDecode : decode [0xC3, 0x00, 0x3E, 0xFF] = .ok (.jmp 0x3E00, [0xFF]) := by rfl

/-- A store at the top of memory wraps; address 1 is outside it. -/
theorem witness_WordsAreLittleEndian :
    (placed 0x0000 [0x22]).mem.wf = true ∧ (1 : Word) ≠ 0xFFFF ∧ (1 : Word) ≠ 0xFFFF + 1 := by decide

/-- A push at SP 1 stores to 0 and 0xFFFF; address 1 is outside it. -/
theorem witness_PopUndoesPush :
    { placed 0x0000 [0xE5] with sp := 1 }.mem.wf = true ∧ (1 : Word) ≠ 1 - 1 ∧ (1 : Word) ≠ 1 - 2 := by decide

theorem witness_CanonicalMemoryIsUnique :
    Memory.wf [(0, 0x01), (65535, 0x02)] = true ∧
    Memory.wf (Memory.write [(65535, 0x02)] 0 0x01) = true ∧
    ∀ a : Word, Memory.read [(0, 0x01), (65535, 0x02)] a.toNat = Memory.read (Memory.write [(65535, 0x02)] 0 0x01) a.toNat :=
  ⟨rfl, rfl, fun _ => rfl⟩

/-- The last byte of memory, its operand at address 0, PROG_END just above it. -/
theorem witness_StepRunsTheInstructionAtPc :
    let s := (placed 0xFFFF [0x3E]).writeByte 0x0000 0x99
    s.run = .running ∧ s.pc.toNat < s.build.progEnd ∧ s.readByte s.pc ∉ s.build.unimplemented ∧
    decode [s.readByte s.pc, s.readByte (s.pc + 1), s.readByte (s.pc + 2)] = .ok (.mviA 0x99, [0x00]) :=
  ⟨rfl, by decide, by decide, rfl⟩

/-- Vector Q1, PROG_END just above PC. -/
theorem witness_OpcodeWithoutHandlerFaults :
    let s := minimal [0xFF]
    s.run = .running ∧ s.pc.toNat < s.build.progEnd ∧ s.readByte s.pc ∈ s.build.unimplemented := by decide

/-- PC at PROG_END. -/
theorem witness_EndOfProgramChangesNothing :
    let s := { State.reset.loadSetup { image := [0x00] } with pc := 1 }
    s.run = .running ∧ s.build.progEnd ≤ s.pc.toNat := by decide

theorem witness_StoppedStatesAreLeftOnlyByReset :
    let h := { State.reset with run := .halted }
    let f := { State.reset with run := .faulted { reason := .unimplementedOpcode, addr := 0, byte := 0xFF } }
    h.run = .halted ∧ f.goneWrong ∧
    h.react (.reset none) = .next State.reset ∧ f.react (.irq 1) = .next f :=
  ⟨rfl, ⟨_, rfl⟩, rfl, rfl⟩

/-- Each of the three next states of a running step: HLT, a fault, the end of the program. -/
theorem witness_RunningStepLeadsTo :
    (placed 0xFFFF [0x76]).run = .running ∧ (placed 0xFFFF [0x76]).readByte 0xFFFF = 0x76 ∧
    (minimal [0xFF]).run = .running ∧ State.reset.run = .running := by decide

/-- The invariant of a state that is not Faulted. -/
theorem inv_of_running {s : State} (hm : s.mem.wf = true) (hb : s.build.wf = true) (hr : s.run = .running) : s.Inv :=
  ⟨hm, hb, fun record h => by rw [hr] at h; cases h⟩

/-- A step into Faulted. -/
theorem witness_StepKeepsInv :
    (minimal [0xFF]).Inv ∧
    ∃ t, step (minimal [0xFF]) = .next t ∧ t.goneWrong :=
  ⟨inv_of_running (by decide) (by decide) rfl, _, rfl, _, rfl⟩

/-- An accepted interrupt, a reset, and a step. -/
theorem witness_HostEventsKeepInv :
    interruptible.Inv ∧ (∃ t, interruptible.react (.irq 7) = .next t) ∧
    (∃ t, interruptible.react (.reset none) = .next t) ∧
    (∃ t, interruptible.react (.reset (some { loadBase := 0xFFFF, image := [0x01] })) = .next t) ∧
    ∃ t, interruptible.react .step = .next t :=
  ⟨inv_of_running (by decide) (by decide) rfl, ⟨_, rfl⟩, ⟨_, rfl⟩, ⟨_, rfl⟩, ⟨_, rfl⟩⟩

/-- The longest instruction, at the top of memory; each condition false somewhere. -/
theorem witness_PcAdvancesByTheLength :
    Claims.transfers (.shld 0xFFFF) = false ∧ (∃ t, exec (.shld 0xFFFF) (placed 0xFFFF [0x22]) = .next t) ∧
    ([.z, .c, .pe, .m] : List Cond).map (zspca false false false false false).cond = [false, false, false, false] ∧
    ([.nz, .nc, .po, .p] : List Cond).map (zspca true true true true true).cond = [false, false, false, false] :=
  ⟨rfl, ⟨_, rfl⟩, rfl, rfl⟩

/-- INR M does not declare CY, DAD does not declare AC, JMP declares nothing. -/
theorem witness_UndeclaredFlagsAreKept :
    FlagName.cy ∉ Instr.inrM.flags ∧ FlagName.ac ∉ Instr.dadSP.flags ∧ FlagName.z ∉ (Instr.jmp 0x1234).flags ∧
    ∃ t, exec .inrM State.reset = .next t :=
  ⟨by decide, by decide, by decide, ⟨_, rfl⟩⟩

/-- CMP keeps A; POP B keeps D; IN keeps B. -/
theorem witness_OtherRegistersAreKept :
    Reg.a ∉ Claims.destinations Instr.cmpB.opcode ∧ Reg.d ∉ Claims.destinations Instr.popB.opcode ∧
    Reg.b ∉ Claims.destinations (Instr.inPort 0x10).opcode ∧ ∃ t, exec .cmpB State.reset = .next t :=
  ⟨by decide, by decide, by decide, ⟨_, rfl⟩⟩

/-- XTHL and DAD SP use SP and keep it. -/
theorem witness_StackPointerIsKept :
    Claims.writesSp .xthl = false ∧ Claims.writesSp .dadSP = false ∧ ∃ t, exec .xthl State.reset = .next t :=
  ⟨rfl, rfl, ⟨_, rfl⟩⟩

/-- XTHL at SP 0xFFFF stores to 0xFFFF and 0; a conditional call that is not taken stores nothing. -/
theorem witness_MemoryIsKeptOutsideTheStore :
    (1 : Word) ∉ Claims.storedAt { State.reset with sp := 0xFFFF } .xthl ∧
    (0xFFFE : Word) ∉ Claims.storedAt State.reset (.cz 0x2000) ∧
    (0x0002 : Word) ∉ Claims.storedAt State.reset (.shld 0x0000) ∧
    ∃ t, exec (.cz 0x2000) State.reset = .next t :=
  ⟨by decide, by decide, by decide, ⟨_, rfl⟩⟩

theorem witness_ControlStateIsKept :
    (∃ t, exec .ei State.reset = .next t) ∧ (∀ p, Instr.ei ≠ .inPort p) ∧ (∀ p, Instr.ei ≠ .outPort p) :=
  ⟨⟨_, rfl⟩, (fun _ h => Instr.noConfusion h), (fun _ h => Instr.noConfusion h)⟩

/-- 29 + 49 (R159's example) and 99 + 99. -/
theorem witness_DaaMakesDecimalAddition :
    (let s := { State.reset with regs := { zero with a := 0x29 } }
     s.regs.a = BitVec.ofNat 8 (16 * (29 / 10) + 29 % 10) ∧
     ∃ t u, exec (.adi 0x49) s = .next t ∧ exec .daa t = .next u ∧ u.regs.a = 0x78 ∧ u.flags.cy = false) ∧
    (let s := { State.reset with regs := { zero with a := 0x99 } }
     s.regs.a = BitVec.ofNat 8 (16 * (99 / 10) + 99 % 10) ∧
     ∃ t u, exec (.adi 0x99) s = .next t ∧ exec .daa t = .next u ∧ u.regs.a = 0x98 ∧ u.flags.cy = true) :=
  ⟨⟨rfl, _, _, rfl, rfl, rfl, rfl⟩, ⟨rfl, _, _, rfl, rfl, rfl, rfl⟩⟩

/-- M holding 0xFF, at the instruction's own address. -/
theorem witness_DcrUndoesInr :
    (placed 0x0000 [0xFF]).mem.wf = true ∧
    ∃ t u, exec .inrM (placed 0x0000 [0xFF]) = .next t ∧ exec .dcrM t = .next u :=
  ⟨by decide, _, _, rfl, rfl⟩

/-- The stack at the wrap. -/
theorem witness_RetUndoesCall : { State.reset with sp := 0x0001 }.mem.wf = true := by decide

theorem witness_ExchangesUndoThemselves : { placed 0x0000 [0xE3] with sp := 0xFFFF }.mem.wf = true := by decide

/-- The host gives the next input byte. -/
theorem witness_PortInputAndOutput :
    { State.reset with ports := { inputs := [0x5A], events := [] } }.ports.inputs = 0x5A :: [] := by decide

/-- The states right after EI, below PROG_END by one, after DI and after HLT. -/
theorem witness_ControlInstructions :
    (∃ t, exec .ei { placed 0x0010 [0xFB] with build := { unimplemented := [], progEnd := 0x0012 } } = .next t ∧
      t.run = .running ∧ t.pc.toNat < t.build.progEnd) ∧
    (∃ t, exec .di State.reset = .next t) ∧ ∃ t, exec .hlt State.reset = .next t :=
  ⟨⟨_, rfl, rfl, by decide⟩, ⟨_, rfl⟩, ⟨_, rfl⟩⟩

/-- Accepted at the last address below PROG_END; not accepted at PROG_END. -/
theorem witness_InterruptService :
    (let s := { interruptible with build := { unimplemented := [], progEnd := 0x0151 } }
     s.run = .running ∧ s.pc.toNat < s.build.progEnd ∧ s.ie = true) ∧
    (let s := { interruptible with build := { unimplemented := [], progEnd := 0x0150 } }
     ¬ (s.run = .running ∧ s.pc.toNat < s.build.progEnd ∧ s.ie = true)) := by decide

theorem witness_InterruptReturn :
    interruptible.mem.wf = true ∧ interruptible.run = .running ∧
    interruptible.pc.toNat < interruptible.build.progEnd ∧ interruptible.ie = true := by decide

/-- An image whose last byte is the last of memory. -/
theorem witness_ResetLeaves :
    let p : Setup := { loadBase := 0xFFFF, image := [0x76] }
    p.loadBase.toNat + p.image.length ≤ 65536 ∧ p.programEnd ≤ 65536 := by decide

/-- No reload, the default PROG_END, and an override at its largest value. -/
theorem witness_ResetKeepsTheParameters :
    (∃ t, (minimal [0xFF]).react (.reset none) = .next t ∧ t.build.progEnd = 1 ∧ t.build.unimplemented = [0xFF]) ∧
    (∃ t, State.reset.react (.reset (some { image := [0x76] })) = .next t ∧ t.build.progEnd = 1) ∧
    ∃ t, State.reset.react (.reset (some { image := [0x76], progEnd := some 65536 })) = .next t ∧ t.build.progEnd = 65536 :=
  ⟨⟨_, rfl, rfl, rfl⟩, ⟨_, rfl, rfl⟩, ⟨_, rfl, rfl⟩⟩

/-- One byte too many; a PROG_END one too high. -/
theorem witness_UnfitSetupIsRefused :
    (let p : Setup := { loadBase := 0xFFFF, image := [0x76, 0x76] }
     p.loadBase.toNat + p.image.length > 65536) ∧
    (let p : Setup := { image := [0x76], progEnd := some 65537 }
     p.loadBase.toNat + p.image.length ≤ 65536 ∧ p.programEnd > 65536) := by decide

end Sys2Proof.Tests
end

/-! PROOFS. The state and its views: register pairs, the flag byte, the run states of a step, and the registers, SP and
control state that an instruction keeps (10_state.md). -/

namespace Sys2Proof.Machine

open Claims

/-! The pairs and the flag byte are views of the state (10_state.md R12, R17). -/

/-- A write to a pair leaves every other pair as it was (10_state.md R12, R15). -/
theorem State.pair_setPair_of_ne (s : State) {p q : Pair} (v : Word) (h : q ≠ p) :
    (s.setPair p v).pair q = s.pair q := by
  cases p with
  | bc => cases q with
    | bc => exact absurd rfl h
    | _ => rfl
  | de => cases q with
    | de => exact absurd rfl h
    | _ => rfl
  | hl => cases q with
    | hl => exact absurd rfl h
    | _ => rfl
  | sp => cases q with
    | sp => exact absurd rfl h
    | _ => rfl

theorem State.pair_setPair_eq_ite (s : State) (p q : Pair) (v : Word) :
    (s.setPair p v).pair q = if q = p then v else s.pair q := by
  split
  · next h => rw [h, State.pair_setPair]
  · next h => exact State.pair_setPair_of_ne s v h

/-- Settles O7: the pairs are concatenations of their bytes, and a pair is read back from its own write only. -/
theorem pairsAreViewsOfTheirBytes : Obligations.PairsAreViewsOfTheirBytes := fun s p q v =>
  ⟨wordOf_toNat _ _, wordOf_toNat _ _, wordOf_toNat _ _, State.pair_setPair_eq_ite s p q v,
    rfl, rfl, rfl, rfl, rfl, rfl⟩

/-- The bits of the flag byte from bit 7 down (10_state.md R17), for each of the 32 values of the flags. -/
theorem Flags.toByte_getLsbD (f : Flags) :
    f.toByte.getLsbD 7 = f.s ∧ f.toByte.getLsbD 6 = f.z ∧ f.toByte.getLsbD 5 = false ∧ f.toByte.getLsbD 4 = f.ac ∧
    f.toByte.getLsbD 3 = false ∧ f.toByte.getLsbD 2 = f.p ∧ f.toByte.getLsbD 1 = true ∧ f.toByte.getLsbD 0 = f.cy := by
  obtain ⟨z, s, p, cy, ac⟩ := f
  revert z s p cy ac
  decide

theorem Flags.toByte_bits (f : Flags) : ([7, 6, 5, 4, 3, 2, 1, 0] : List Nat).map f.toByte.getLsbD =
    [f.s, f.z, false, f.ac, false, f.p, true, f.cy] := by
  simpa using f.toByte_getLsbD

/-- Unpacking undoes packing: the two views name the same bits. -/
@[simp] theorem Flags.ofByte_toByte (f : Flags) : Flags.ofByte f.toByte = f := by
  obtain ⟨h7, h6, -, h4, -, h2, -, h0⟩ := f.toByte_getLsbD
  simp only [Flags.ofByte, h7, h6, h4, h2, h0]

/-- Packing an unpacked byte clears bits 5 and 3 and sets bit 1. -/
theorem Flags.toByte_ofByte (v : Byte) : (Flags.ofByte v).toByte = (v &&& 0xD7) ||| 0x02 := by
  obtain ⟨h7, h6, h5, h4, h3, h2, h1, h0⟩ := (Flags.ofByte v).toByte_getLsbD
  apply BitVec.eq_of_getLsbD_eq
  intro i hi
  rw [BitVec.getLsbD_or, BitVec.getLsbD_and]
  interval_cases i <;> simp only [h7, h6, h5, h4, h3, h2, h1, h0] <;> simp [Flags.ofByte]

/-- Settles O10, from the flag byte's bits. -/
theorem flagByteLayout : Obligations.FlagByteLayout :=
  ⟨fun f => ⟨f.toByte_bits, f.ofByte_toByte⟩, fun v => ⟨rfl, Flags.toByte_ofByte v⟩⟩

/-! The effect of an instruction, said once for all the frames. -/

/-- What an instruction does, family by family (30_encoding.md R65 to R70): `Effect s t i` says that `i` leads from `s`
to `t`. A conditional transfer has one constructor for each value of its condition; the duplicate encodings share one. -/
inductive Effect (s : State) : State → Instr → Prop
  | movRR (dst src : Reg) : Effect s (s.moveRegister dst src) (.movRR dst src)
  | movRM (dst : Reg) : Effect s (s.moveFromM dst) (.movRM dst)
  | movMR (src : Reg) : Effect s (s.moveToM src) (.movMR src)
  | mviR (dst : Reg) (d8 : Byte) : Effect s (s.moveImmediate (.reg dst) d8) (.mviR dst d8)
  | mviM (d8 : Byte) : Effect s (s.moveImmediate .mem d8) (.mviM d8)
  | lxi (p : Pair) (d16 : Word) : Effect s (s.loadPair p d16) (.lxi p d16)
  | lda (a16 : Word) : Effect s (s.loadA a16 3) (.lda a16)
  | sta (a16 : Word) : Effect s (s.storeA a16 3) (.sta a16)
  | lhld (a16 : Word) : Effect s ((s.setHl (s.readWord a16)).advance 3) (.lhld a16)
  | shld (a16 : Word) : Effect s ((s.writeWord a16 s.hl).advance 3) (.shld a16)
  | ldax (p : IndexPair) : Effect s (s.loadA (s.indexAddress p) 1) (.ldax p)
  | stax (p : IndexPair) : Effect s (s.storeA (s.indexAddress p) 1) (.stax p)
  | xchg : Effect s (s.exchangeHlDe.advance 1) .xchg
  | alu (op : AluOp) (src : Src) : Effect s (s.accumulate op (s.source src) 1) (.alu op src)
  | aluImm (op : AluOp) (d8 : Byte) : Effect s (s.accumulate op d8 2) (.aluImm op d8)
  | inr (d : Src) : Effect s (s.increment d) (.inr d)
  | dcr (d : Src) : Effect s (s.decrement d) (.dcr d)
  | inx (p : Pair) : Effect s (s.incrementPair p) (.inx p)
  | dcx (p : Pair) : Effect s (s.decrementPair p) (.dcx p)
  | dad (p : Pair) : Effect s (s.addToHl p) (.dad p)
  | daa : Effect s s.decimalAdjust .daa
  | rlc : Effect s (s.rotateTo (s.regs.a <<< 1 ||| bit0 (s.regs.a.getLsbD 7)) (s.regs.a.getLsbD 7)) .rlc
  | rrc : Effect s (s.rotateTo (s.regs.a >>> 1 ||| bit7 (s.regs.a.getLsbD 0)) (s.regs.a.getLsbD 0)) .rrc
  | ral : Effect s (s.rotateTo (s.regs.a <<< 1 ||| bit0 s.flags.cy) (s.regs.a.getLsbD 7)) .ral
  | rar : Effect s (s.rotateTo (s.regs.a >>> 1 ||| bit7 s.flags.cy) (s.regs.a.getLsbD 0)) .rar
  | cma : Effect s ((s.setReg .a (~~~s.regs.a)).advance 1) .cma
  | cmc : Effect s ((s.setCarry (!s.flags.cy)).advance 1) .cmc
  | stc : Effect s ((s.setCarry true).advance 1) .stc
  | jmp {i : Instr} (a16 : Word) (hi : i ∈ Instr.jumps a16) : Effect s (s.jump a16) i
  | jumpTaken (cond : Cond) (a16 : Word) (hc : s.flags.cond cond = true) : Effect s (s.jump a16) (.jumpIf cond a16)
  | jumpNotTaken (cond : Cond) (a16 : Word) (hc : s.flags.cond cond = false) : Effect s (s.advance 3) (.jumpIf cond a16)
  | pchl : Effect s (s.jump s.hl) .pchl
  | call {i : Instr} (a16 : Word) (hi : i ∈ Instr.calls a16) : Effect s (s.callTo a16 3) i
  | callTaken (cond : Cond) (a16 : Word) (hc : s.flags.cond cond = true) : Effect s (s.callTo a16 3) (.callIf cond a16)
  | callNotTaken (cond : Cond) (a16 : Word) (hc : s.flags.cond cond = false) : Effect s (s.advance 3) (.callIf cond a16)
  | ret {i : Instr} (hi : i ∈ Instr.rets) : Effect s s.popPc i
  | retTaken (cond : Cond) (hc : s.flags.cond cond = true) : Effect s s.popPc (.retIf cond)
  | retNotTaken (cond : Cond) (hc : s.flags.cond cond = false) : Effect s (s.advance 1) (.retIf cond)
  | rst (n : Fin 8) : Effect s (s.callTo (restartAddress n) 1) (.rst n)
  | inPort (p : Byte) :
      Effect s (((s.recordInput p (s.portByte p)).setReg .a (s.portByte p)).advance 2) (.inPort p)
  | outPort (p : Byte) : Effect s ((s.recordOutput p s.regs.a).advance 2) (.outPort p)
  | push (p : StackPair) : Effect s ((s.push16 (s.stackPair p)).advance 1) (.push p)
  | pushPSW : Effect s ((s.push16 s.psw).advance 1) .pushPSW
  | pop (p : StackPair) : Effect s ((s.drop16.setStackPair p s.top16).advance 1) (.pop p)
  | popPSW : Effect s ((s.drop16.setPsw s.top16).advance 1) .popPSW
  | xthl : Effect s (((s.writeWord s.sp s.hl).setHl s.top16).advance 1) .xthl
  | sphl : Effect s ((s.setSp s.hl).advance 1) .sphl
  | ei : Effect s ((s.setIe true).advance 1) .ei
  | di : Effect s ((s.setIe false).advance 1) .di
  | hlt : Effect s ((s.setRun .halted).advance 1) .hlt
  | nop {i : Instr} (hi : i ∈ Instr.nops) : Effect s (s.advance 1) i

theorem Effect.jumpIf (s : State) (cond : Cond) (a16 : Word) : Effect s (s.jumpWhen cond a16) (.jumpIf cond a16) := by
  obtain ⟨hc, ht⟩ | ⟨hc, ht⟩ := s.jumpWhen_cases cond a16
  · rw [ht]; exact .jumpTaken cond a16 hc
  · rw [ht]; exact .jumpNotTaken cond a16 hc

theorem Effect.callIf (s : State) (cond : Cond) (a16 : Word) : Effect s (s.callWhen cond a16) (.callIf cond a16) := by
  obtain ⟨hc, ht⟩ | ⟨hc, ht⟩ := s.callWhen_cases cond a16
  · rw [ht]; exact .callTaken cond a16 hc
  · rw [ht]; exact .callNotTaken cond a16 hc

theorem Effect.retIf (s : State) (cond : Cond) : Effect s (s.returnWhen cond) (.retIf cond) := by
  obtain ⟨hc, ht⟩ | ⟨hc, ht⟩ := s.returnWhen_cases cond
  · rw [ht]; exact .retTaken cond hc
  · rw [ht]; exact .retNotTaken cond hc

/-- Every instruction answers a next state, the one its family says. -/
theorem exec_next_effect (i : Instr) (s : State) : ∃ t, exec i s = .next t ∧ Effect s t i := by
  cases i with
  | movBB | movBC | movBD | movBE | movBH | movBL | movBA | movCB | movCC | movCD | movCE | movCH | movCL
  | movCA | movDB | movDC | movDD | movDE | movDH | movDL | movDA | movEB | movEC | movED | movEE | movEH
  | movEL | movEA | movHB | movHC | movHD | movHE | movHH | movHL | movHA | movLB | movLC | movLD | movLE
  | movLH | movLL | movLA | movAB | movAC | movAD | movAE | movAH | movAL | movAA => exact ⟨_, rfl, .movRR ..⟩
  | movBM | movCM | movDM | movEM | movHM | movLM | movAM => exact ⟨_, rfl, .movRM ..⟩
  | movMB | movMC | movMD | movME | movMH | movML | movMA => exact ⟨_, rfl, .movMR ..⟩
  | mviB _ | mviC _ | mviD _ | mviE _ | mviH _ | mviL _ | mviA _ => exact ⟨_, rfl, .mviR ..⟩
  | mviM _ => exact ⟨_, rfl, .mviM ..⟩
  | lxiB _ | lxiD _ | lxiH _ | lxiSP _ => exact ⟨_, rfl, .lxi ..⟩
  | lda _ => exact ⟨_, rfl, .lda ..⟩
  | sta _ => exact ⟨_, rfl, .sta ..⟩
  | lhld _ => exact ⟨_, rfl, .lhld ..⟩
  | shld _ => exact ⟨_, rfl, .shld ..⟩
  | ldaxB | ldaxD => exact ⟨_, rfl, .ldax ..⟩
  | staxB | staxD => exact ⟨_, rfl, .stax ..⟩
  | xchg => exact ⟨_, rfl, .xchg⟩
  | addB | addC | addD | addE | addH | addL | addA | addM | adcB | adcC | adcD | adcE | adcH | adcL | adcA
  | adcM | subB | subC | subD | subE | subH | subL | subA | subM | sbbB | sbbC | sbbD | sbbE | sbbH | sbbL
  | sbbA | sbbM | anaB | anaC | anaD | anaE | anaH | anaL | anaA | anaM | xraB | xraC | xraD | xraE | xraH
  | xraL | xraA | xraM | oraB | oraC | oraD | oraE | oraH | oraL | oraA | oraM | cmpB | cmpC | cmpD | cmpE
  | cmpH | cmpL | cmpA | cmpM => exact ⟨_, rfl, .alu ..⟩
  | adi _ | aci _ | sui _ | sbi _ | ani _ | xri _ | ori _ | cpi _ => exact ⟨_, rfl, .aluImm ..⟩
  | inrB | inrC | inrD | inrE | inrH | inrL | inrA | inrM => exact ⟨_, rfl, .inr ..⟩
  | dcrB | dcrC | dcrD | dcrE | dcrH | dcrL | dcrA | dcrM => exact ⟨_, rfl, .dcr ..⟩
  | inxB | inxD | inxH | inxSP => exact ⟨_, rfl, .inx ..⟩
  | dcxB | dcxD | dcxH | dcxSP => exact ⟨_, rfl, .dcx ..⟩
  | dadB | dadD | dadH | dadSP => exact ⟨_, rfl, .dad ..⟩
  | daa => exact ⟨_, rfl, .daa⟩
  | rlc => exact ⟨_, rfl, .rlc⟩
  | rrc => exact ⟨_, rfl, .rrc⟩
  | ral => exact ⟨_, rfl, .ral⟩
  | rar => exact ⟨_, rfl, .rar⟩
  | cma => exact ⟨_, rfl, .cma⟩
  | cmc => exact ⟨_, rfl, .cmc⟩
  | stc => exact ⟨_, rfl, .stc⟩
  | jmp _ | jmpCB _ => exact ⟨_, rfl, .jmp _ (by simp [Instr.jumps])⟩
  | jnz _ | jz _ | jnc _ | jc _ | jpo _ | jpe _ | jp _ | jm _ => exact ⟨_, rfl, .jumpIf ..⟩
  | pchl => exact ⟨_, rfl, .pchl⟩
  | call _ | callDD _ | callED _ | callFD _ => exact ⟨_, rfl, .call _ (by simp [Instr.calls])⟩
  | cnz _ | cz _ | cnc _ | cc _ | cpo _ | cpe _ | cp _ | cm _ => exact ⟨_, rfl, .callIf ..⟩
  | ret | retD9 => exact ⟨_, rfl, .ret (by simp [Instr.rets])⟩
  | rnz | rz | rnc | rc | rpo | rpe | rp | rm => exact ⟨_, rfl, .retIf ..⟩
  | rst0 | rst1 | rst2 | rst3 | rst4 | rst5 | rst6 | rst7 => exact ⟨_, rfl, .rst ..⟩
  | inPort _ => exact ⟨_, rfl, .inPort ..⟩
  | outPort _ => exact ⟨_, rfl, .outPort ..⟩
  | pushB | pushD | pushH => exact ⟨_, rfl, .push ..⟩
  | pushPSW => exact ⟨_, rfl, .pushPSW⟩
  | popB | popD | popH => exact ⟨_, rfl, .pop ..⟩
  | popPSW => exact ⟨_, rfl, .popPSW⟩
  | xthl => exact ⟨_, rfl, .xthl⟩
  | sphl => exact ⟨_, rfl, .sphl⟩
  | ei => exact ⟨_, rfl, .ei⟩
  | di => exact ⟨_, rfl, .di⟩
  | hlt => exact ⟨_, rfl, .hlt⟩
  | nop | nop08 | nop10 | nop18 | nop20 | nop28 | nop30 | nop38 => exact ⟨_, rfl, .nop (by simp [Instr.nops])⟩

/-- The inversion of `exec`: everything an instruction that answers a next state can have done. -/
theorem effect_of_exec {i : Instr} {s t : State} (h : exec i s = .next t) : Effect s t i := by
  obtain ⟨u, hu, he⟩ := exec_next_effect i s
  cases h.symm.trans hu
  exact he

/-! Control state (10_state.md R18, R19, R22; 20_memory.md R49). -/

/-- Which instructions write IE, the run state and the port boundary; none writes the build. -/
theorem Effect.control {s t : State} {i : Instr} (h : Effect s t i) :
    t.build = s.build ∧
    (i ≠ .ei → i ≠ .di → t.ie = s.ie) ∧
    (i ≠ .hlt → t.run = s.run) ∧
    ((∀ p, i ≠ .inPort p) → (∀ p, i ≠ .outPort p) → t.ports = s.ports) := by
  cases h with
  | ei => exact ⟨rfl, fun hne => absurd rfl hne, fun _ => rfl, fun _ _ => rfl⟩
  | di => exact ⟨rfl, fun _ hne => absurd rfl hne, fun _ => rfl, fun _ _ => rfl⟩
  | hlt => exact ⟨rfl, fun _ _ => rfl, fun hne => absurd rfl hne, fun _ _ => rfl⟩
  | inPort p => exact ⟨rfl, fun _ _ => rfl, fun _ => rfl, fun hne => absurd rfl (hne p)⟩
  | outPort p => exact ⟨rfl, fun _ _ => rfl, fun _ => rfl, fun _ hne => absurd rfl (hne p)⟩
  | lxi | inx | dcx | pop => simp [State.loadPair_eq, State.incrementPair_eq, State.decrementPair_eq]
  | inr | dcr => simp [State.increment_eq, State.decrement_eq]
  | _ => exact ⟨rfl, fun _ _ => rfl, fun _ => rfl, fun _ _ => rfl⟩

/-- The run state after an instruction (10_state.md R19). -/
theorem run_of_exec {i : Instr} {s t : State} (h : exec i s = .next t) :
    t.run = if i = .hlt then .halted else s.run := by
  split
  · next hi => subst hi; cases h; rfl
  · next hi =>
    obtain ⟨-, -, hrun, -⟩ := (effect_of_exec h).control
    exact hrun hi

/-- IE after an instruction (10_state.md R18). -/
theorem ie_of_exec {i : Instr} {s t : State} (h : exec i s = .next t) :
    t.ie = if i = .ei then true else if i = .di then false else s.ie := by
  split
  · next hei => subst hei; cases h; rfl
  · next hei =>
    split
    · next hdi => subst hdi; cases h; rfl
    · next hdi =>
      obtain ⟨-, hie, -, -⟩ := (effect_of_exec h).control
      exact hie hei hdi

/-- Settles O28, from the family that the instruction belongs to. -/
theorem controlStateIsKept : Obligations.ControlStateIsKept := by
  intro i s t h
  obtain ⟨hbuild, -, -, hports⟩ := (effect_of_exec h).control
  exact ⟨hbuild, ie_of_exec h, hports, run_of_exec h⟩

/-! The run states a step leads to (10_state.md R19; 41_sequencer.md R100, R101, R103). -/

/-- The instruction assembled from an opcode has that opcode, whatever its operand bytes are: the check of the 256 opcode
bytes meets no operand. -/
@[simp] theorem opcode_assemble (op b2 b3 : Byte) : (assemble op b2 b3).opcode = op := by
  revert op
  exact of_decide_eq_true rfl

/-- HLT is 0x76 and no other byte (46_stack_io_control.md R250). -/
theorem fetchInstr_eq_hlt_iff (s : State) : s.fetchInstr = .hlt ↔ s.readByte s.pc = 0x76 := by
  constructor
  · intro h
    have hop : s.fetchInstr.opcode = s.readByte s.pc := opcode_assemble _ _ _
    rw [← hop, h]
    rfl
  · intro h
    rw [State.fetchInstr, State.fetchOpcode, h]
    rfl

theorem State.pastProgramEnd_iff (s : State) : s.pastProgramEnd = true ↔ s.build.progEnd ≤ s.pc.toNat := by
  simp [State.pastProgramEnd]

theorem State.pastProgramEnd_eq_false_iff (s : State) : s.pastProgramEnd = false ↔ s.pc.toNat < s.build.progEnd := by
  simp [State.pastProgramEnd]

theorem State.implements_eq_false_iff (s : State) (op : Byte) :
    s.implements op = false ↔ op ∈ s.build.unimplemented := by
  simp [State.implements]

/-- A running machine's step answers a next state: at the end of the program, on a missing handler and for every
instruction. -/
theorem step_next_of_running {s : State} (h : s.run = .running) : ∃ t, step s = .next t := by
  rw [step_running h, State.runStep]
  split
  · exact ⟨_, rfl⟩
  · split
    · obtain ⟨t, ht, -⟩ := exec_next_effect s.fetchInstr s
      exact ⟨t, ht⟩
    · exact ⟨_, rfl⟩

/-- Settles O19: the three ways a step can go, each with its run state. -/
theorem runningStepLeadsTo : Obligations.RunningStepLeadsTo := by
  intro s hrun
  obtain ⟨t, ht⟩ := step_next_of_running hrun
  refine ⟨t, ht, ?_⟩
  obtain ⟨-, ⟨hend, rfl⟩ | ⟨hpc, himp, rfl⟩ | ⟨hpc, himp, hexec⟩⟩ := step_cases ht
  · have hend : ¬ t.pc.toNat < t.build.progEnd := Nat.not_lt.mpr (t.pastProgramEnd_iff.mp hend)
    exact ⟨iff_of_false (by simp [hrun]) fun ⟨hlt, _, _⟩ => hend hlt,
      iff_of_false (by simp [State.goneWrong, hrun]) fun ⟨hlt, _⟩ => hend hlt⟩
  · have hpc := s.pastProgramEnd_eq_false_iff.mp hpc
    have himp : s.readByte s.pc ∈ s.build.unimplemented := (s.implements_eq_false_iff _).mp himp
    exact ⟨iff_of_false (by simp) fun ⟨_, hmem, _⟩ => hmem himp, iff_of_true ⟨_, rfl⟩ ⟨hpc, himp⟩⟩
  · have hpc := s.pastProgramEnd_eq_false_iff.mp hpc
    have himp : s.readByte s.pc ∉ s.build.unimplemented := (s.implements_iff _).mp himp
    have htrun := run_of_exec hexec
    simp only [fetchInstr_eq_hlt_iff, hrun] at htrun
    split at htrun
    · next hop =>
      exact ⟨iff_of_true htrun ⟨hpc, himp, hop⟩,
        iff_of_false (by simp [State.goneWrong, htrun]) fun ⟨_, hmem⟩ => himp hmem⟩
    · next hop =>
      exact ⟨iff_of_false (by simp [htrun]) fun ⟨_, _, heq⟩ => hop heq,
        iff_of_false (by simp [State.goneWrong, htrun]) fun ⟨_, hmem⟩ => himp hmem⟩

/-! SP (10_state.md R15). -/

theorem writesSp_of_mem_calls {i : Instr} {a16 : Word} (h : i ∈ Instr.calls a16) : writesSp i = true := by
  simp only [Instr.calls, List.mem_cons, List.not_mem_nil, or_false] at h
  obtain rfl | rfl | rfl | rfl := h <;> rfl

theorem writesSp_of_mem_rets : ∀ i ∈ Instr.rets, writesSp i = true := by decide

theorem writesSp_callIf (cond : Cond) (a16 : Word) : writesSp (.callIf cond a16) = true := by cases cond <;> rfl

theorem writesSp_retIf (cond : Cond) : writesSp (.retIf cond) = true := by cases cond <;> rfl

theorem writesSp_rst : ∀ n, writesSp (.rst n) = true := by decide

theorem writesSp_push (p : StackPair) : writesSp (.push p) = true := by cases p <;> rfl

theorem writesSp_pop (p : StackPair) : writesSp (.pop p) = true := by cases p <;> rfl

theorem Effect.sp_eq {s t : State} {i : Instr} (h : Effect s t i) (hsp : writesSp i = false) : t.sp = s.sp := by
  cases h with
  | lxi p | inx p | dcx p =>
    cases p with
    | sp => cases hsp
    | _ => rfl
  | call _ hi => simp [writesSp_of_mem_calls hi] at hsp
  | callTaken => simp [writesSp_callIf] at hsp
  | ret hi => simp [writesSp_of_mem_rets _ hi] at hsp
  | retTaken => simp [writesSp_retIf] at hsp
  | rst => simp [writesSp_rst] at hsp
  | push => simp [writesSp_push] at hsp
  | pop => simp [writesSp_pop] at hsp
  | pushPSW | popPSW | sphl => cases hsp
  | inr | dcr => simp [State.increment_eq, State.decrement_eq]
  | _ => rfl

/-- Settles O26, from the family that the instruction belongs to. -/
theorem stackPointerIsKept : Obligations.StackPointerIsKept :=
  fun _ _ _ hsp h => (effect_of_exec h).sp_eq hsp

/-! The destination registers of the families that write a general register (30_encoding.md R65 to R68). -/

@[simp] theorem destinations_movRR (dst src : Reg) : destinations (Instr.movRR dst src).opcode = [dst] := by
  cases dst <;> cases src <;> rfl

@[simp] theorem destinations_movRM (dst : Reg) : destinations (Instr.movRM dst).opcode = [dst] := by
  cases dst <;> rfl

@[simp] theorem destinations_mviR (dst : Reg) (d8 : Byte) : destinations (Instr.mviR dst d8).opcode = [dst] := by
  have hop : (Instr.mviR dst d8).opcode = (Instr.mviR dst 0).opcode := by cases dst <;> rfl
  rw [hop]
  cases dst <;> rfl

@[simp] theorem destinations_inr (r : Reg) : destinations (Instr.inr (.reg r)).opcode = [r] := by cases r <;> rfl

@[simp] theorem destinations_dcr (r : Reg) : destinations (Instr.dcr (.reg r)).opcode = [r] := by cases r <;> rfl

@[simp] theorem destinations_lxi (p : Pair) (d16 : Word) :
    destinations (Instr.lxi p d16).opcode = pairRegisters p.code.toNat := by
  have hop : (Instr.lxi p d16).opcode = (Instr.lxi p 0).opcode := by cases p <;> rfl
  rw [hop]
  cases p <;> rfl

@[simp] theorem destinations_inx (p : Pair) : destinations (Instr.inx p).opcode = pairRegisters p.code.toNat := by
  cases p <;> rfl

@[simp] theorem destinations_dcx (p : Pair) : destinations (Instr.dcx p).opcode = pairRegisters p.code.toNat := by
  cases p <;> rfl

@[simp] theorem destinations_pop (p : StackPair) :
    destinations (Instr.pop p).opcode = pairRegisters p.code.toNat := by cases p <;> rfl

@[simp] theorem destinations_dad (p : Pair) : destinations (Instr.dad p).opcode = [.h, .l] := by cases p <;> rfl

@[simp] theorem destinations_ldax (p : IndexPair) : destinations (Instr.ldax p).opcode = [.a] := by cases p <;> rfl

/-- Every accumulator operation but the compare writes A. -/
@[simp] theorem destinations_alu (op : AluOp) (src : Src) :
    destinations (Instr.alu op src).opcode = if op = .cmp then [] else [.a] := by
  cases src with
  | reg r => cases op <;> cases r <;> rfl
  | mem => cases op <;> rfl

@[simp] theorem destinations_aluImm (op : AluOp) (d8 : Byte) :
    destinations (Instr.aluImm op d8).opcode = if op = .cmp then [] else [.a] := by
  have hop : (Instr.aluImm op d8).opcode = (Instr.aluImm op 0).opcode := by cases op <;> rfl
  rw [hop]
  cases op <;> rfl

/-! What the register writes keep (10_state.md R11, R12). -/

theorem State.get_setReg_of_notMem (s : State) {q r : Reg} (v : Byte) (h : r ∉ [q]) :
    (s.setReg q v).regs.get r = s.regs.get r :=
  Regs.get_set_of_ne s.regs v (List.mem_singleton.not.mp h)

theorem State.get_setBc_of_notMem (s : State) {r : Reg} (v : Word) (h : r ∉ [.b, .c]) :
    (s.setBc v).regs.get r = s.regs.get r := by
  cases r with
  | b | c => simp at h
  | _ => rfl

theorem State.get_setDe_of_notMem (s : State) {r : Reg} (v : Word) (h : r ∉ [.d, .e]) :
    (s.setDe v).regs.get r = s.regs.get r := by
  cases r with
  | d | e => simp at h
  | _ => rfl

theorem State.get_setHl_of_notMem (s : State) {r : Reg} (v : Word) (h : r ∉ [.h, .l]) :
    (s.setHl v).regs.get r = s.regs.get r := by
  cases r with
  | h | l => simp at h
  | _ => rfl

theorem State.get_setPair_of_notMem (s : State) {p : Pair} {r : Reg} (v : Word)
    (h : r ∉ pairRegisters p.code.toNat) : (s.setPair p v).regs.get r = s.regs.get r := by
  cases p with
  | bc => exact s.get_setBc_of_notMem v h
  | de => exact s.get_setDe_of_notMem v h
  | hl => exact s.get_setHl_of_notMem v h
  | sp => rfl

theorem State.get_setStackPair_of_notMem (s : State) {p : StackPair} {r : Reg} (v : Word)
    (h : r ∉ pairRegisters p.code.toNat) : (s.setStackPair p v).regs.get r = s.regs.get r := by
  cases p with
  | bc => exact s.get_setBc_of_notMem v h
  | de => exact s.get_setDe_of_notMem v h
  | hl => exact s.get_setHl_of_notMem v h

theorem State.get_exchangeHlDe_of_notMem (s : State) {r : Reg} (h : r ∉ [.d, .e, .h, .l]) :
    s.exchangeHlDe.regs.get r = s.regs.get r := by
  cases r with
  | d | e | h | l => simp at h
  | _ => rfl

/-- A compare keeps A; any other accumulator operation keeps every other register. -/
theorem State.get_accumulate_of_notMem (s : State) {op : AluOp} {r : Reg} (x : Byte) (n : Word)
    (h : r ∉ if op = .cmp then [] else [.a]) : (s.accumulate op x n).regs.get r = s.regs.get r := by
  split at h
  · next hop => subst hop; rfl
  · exact s.get_setReg_of_notMem _ h

/-- A general register outside the destinations keeps its value. -/
theorem Effect.get_of_notMem {s t : State} {i : Instr} (he : Effect s t i) {r : Reg}
    (h : r ∉ destinations i.opcode) : t.regs.get r = s.regs.get r := by
  cases he with
  | movRR | movRM | mviR | ldax => exact s.get_setReg_of_notMem _ (by simpa using h)
  | lda => rw [Instr.opcode_lda] at h; exact s.get_setReg_of_notMem _ h
  | inPort => rw [Instr.opcode_inPort] at h; exact s.get_setReg_of_notMem _ h
  | daa | rlc | rrc | ral | rar | cma | popPSW => exact s.get_setReg_of_notMem _ h
  | inr d | dcr d =>
    cases d with
    | reg r => exact s.get_setReg_of_notMem _ (by simpa using h)
    | mem => rfl
  | alu | aluImm => exact s.get_accumulate_of_notMem _ _ (by simpa using h)
  | lxi | inx | dcx => exact s.get_setPair_of_notMem _ (by simpa using h)
  | pop => exact s.drop16.get_setStackPair_of_notMem _ (by simpa using h)
  | lhld => rw [Instr.opcode_lhld] at h; exact s.get_setHl_of_notMem _ h
  | dad => exact s.get_setHl_of_notMem _ (by simpa using h)
  | xthl => exact s.get_setHl_of_notMem _ h
  | xchg => exact s.get_exchangeHlDe_of_notMem h
  | _ => rfl

/-- Settles O25, from the family that the instruction belongs to. -/
theorem otherRegistersAreKept : Obligations.OtherRegistersAreKept :=
  fun _ _ _ _ hr h => (effect_of_exec h).get_of_notMem hr

end Sys2Proof.Machine

/-! PROOFS. Memory: the 16-bit accesses and the stack, the canonical form, the bytes an instruction leaves as they were,
and the refused loads (20_memory.md). -/

namespace Sys2Proof.Machine

open Claims

/-! The two bytes of a 16-bit store (20_memory.md R44), at addresses modulo 65,536. -/

theorem word_ne_add_one (a : Word) : a ≠ a + 1 := by bv_omega

theorem word_sub_one_ne_sub_two (a : Word) : a - 1 ≠ a - 2 := by bv_omega

theorem word_sub_two_add_one (a : Word) : a - 2 + 1 = a - 1 := by bv_omega

theorem State.readByte_writeWord_low {s : State} (hs : s.mem.wf = true) (a v : Word) :
    (s.writeWord a v).readByte a = lowByte v := by
  rw [State.readByte_writeWord hs, if_neg (word_ne_add_one a), if_pos rfl]

theorem State.readByte_writeWord_high {s : State} (hs : s.mem.wf = true) (a v : Word) :
    (s.writeWord a v).readByte (a + 1) = highByte v := by
  rw [State.readByte_writeWord hs, if_pos rfl]

theorem State.readWord_writeWord {s : State} (hs : s.mem.wf = true) (a v : Word) :
    (s.writeWord a v).readWord a = v := by
  rw [State.readWord, State.readByte_writeWord_high hs, State.readByte_writeWord_low hs, wordOf_highByte_lowByte]

/-- The frame of a 16-bit store, in any memory. -/
theorem State.readByte_writeWord_of_ne (s : State) {a b : Word} (v : Word) (ha : b ≠ a) (ha1 : b ≠ a + 1) :
    (s.writeWord a v).readByte b = s.readByte b := by
  rw [State.writeWord, State.readByte_writeByte_of_ne _ _ ha1, State.readByte_writeByte_of_ne _ _ ha]

/-- Settles O11, from the two bytes of the store and its frame. -/
theorem wordsAreLittleEndian : Obligations.WordsAreLittleEndian := fun s a v hs =>
  ⟨State.readByte_writeWord_low hs a v, State.readByte_writeWord_high hs a v, State.readWord_writeWord hs a v,
    fun _ => s.readByte_writeWord_of_ne v⟩

/-! The stack (20_memory.md R46). -/

theorem State.readByte_push16_high {s : State} (hs : s.mem.wf = true) (v : Word) :
    (s.push16 v).readByte (s.sp - 1) = highByte v := by
  rw [State.readByte_push16 hs, if_neg (word_sub_one_ne_sub_two s.sp), if_pos rfl]

theorem State.readByte_push16_low {s : State} (hs : s.mem.wf = true) (v : Word) :
    (s.push16 v).readByte (s.sp - 2) = lowByte v := by
  rw [State.readByte_push16 hs, if_pos rfl]

/-- The frame of a push, in any memory. -/
theorem State.readByte_push16_of_ne (s : State) {b : Word} (v : Word) (h1 : b ≠ s.sp - 1) (h2 : b ≠ s.sp - 2) :
    (s.push16 v).readByte b = s.readByte b := by
  rw [State.push16, State.readByte_setSp, State.readByte_writeByte_of_ne _ _ h2,
    State.readByte_writeByte_of_ne _ _ h1]

/-- A pop after a push returns the pushed word. -/
theorem State.top16_push16 {s : State} (hs : s.mem.wf = true) (v : Word) : (s.push16 v).top16 = v := by
  rw [State.top16, State.push16_sp, word_sub_two_add_one, State.readByte_push16_high hs,
    State.readByte_push16_low hs, wordOf_highByte_lowByte]

/-- A pop after a push leaves SP as it was. -/
theorem State.drop16_push16_sp (s : State) (v : Word) : (s.push16 v).drop16.sp = s.sp :=
  BitVec.sub_add_cancel s.sp 2

/-- Settles O12, from the two bytes of the push, its frame, and the pop that reads them. -/
theorem popUndoesPush : Obligations.PopUndoesPush := fun s v hs =>
  ⟨rfl, State.readByte_push16_high hs v, State.readByte_push16_low hs v,
    fun _ => s.readByte_push16_of_ne v, State.top16_push16 hs v, s.drop16_push16_sp v⟩

/-! The canonical form (log entry 2): the first cell of a memory is its first byte that is not 0x00, so the bytes
determine the list. -/

theorem Memory.read_cons_self (k : Nat) (w : Byte) (m : Memory) : Memory.read ((k, w) :: m) k = w := if_pos rfl

theorem Memory.read_cons_of_ne {k a : Nat} (w : Byte) (m : Memory) (h : a ≠ k) :
    Memory.read ((k, w) :: m) a = Memory.read m a := if_neg h

/-- A byte other than 0x00 stands at or above the bound of the canonical form. -/
theorem Memory.le_of_read_ne {lo a : Nat} {m : Memory} (hm : Memory.wfFrom lo m = true)
    (h : Memory.read m a ≠ unlistedByte) : lo ≤ a :=
  Nat.le_of_not_lt fun hlt => h (Memory.read_of_lt hm hlt)

/-- Where a canonical memory with a first cell is read alike by another canonical one, the other has a first cell, and
at no higher address. -/
theorem Memory.exists_head_le {lo lo' k : Nat} {w : Byte} {m n : Memory} (hm : Memory.wfFrom lo ((k, w) :: m) = true)
    (hn : Memory.wfFrom lo' n = true) (h : Memory.read ((k, w) :: m) k = Memory.read n k) :
    ∃ k' w' n', n = (k', w') :: n' ∧ k' ≤ k := by
  obtain ⟨-, -, hw, -⟩ := Memory.wfFrom_cons.mp hm
  have hne : Memory.read n k ≠ unlistedByte := by rwa [← h, Memory.read_cons_self]
  cases n with
  | nil => exact absurd rfl hne
  | cons kw n =>
    obtain ⟨-, hcells⟩ := Memory.wfFrom_cons.mp hn
    exact ⟨_, _, _, rfl, Memory.le_of_read_ne (Memory.wfFrom_cons.mpr ⟨Nat.le_refl _, hcells⟩) hne⟩

/-- Canonical memories whose first cell has the same address read alike beyond it as well. -/
theorem Memory.read_tail_eq {k : Nat} {w w' : Byte} {m n : Memory} (hm : Memory.wfFrom (k + 1) m = true)
    (hn : Memory.wfFrom (k + 1) n = true) {a : Nat}
    (h : Memory.read ((k, w) :: m) a = Memory.read ((k, w') :: n) a) : Memory.read m a = Memory.read n a := by
  by_cases ha : a = k
  · have hlt : a < k + 1 := by omega
    rw [Memory.read_of_lt hm hlt, Memory.read_of_lt hn hlt]
  · rwa [Memory.read_cons_of_ne w m ha, Memory.read_cons_of_ne w' n ha] at h

theorem Memory.eq_of_read_eq {lo : Nat} {m n : Memory} (hm : Memory.wfFrom lo m = true)
    (hn : Memory.wfFrom lo n = true) (h : ∀ a < memorySize, Memory.read m a = Memory.read n a) : m = n := by
  induction m generalizing lo n with
  | nil =>
    cases n with
    | nil => rfl
    | cons kw n =>
      obtain ⟨-, hk, -, -⟩ := Memory.wfFrom_cons.mp hn
      obtain ⟨_, _, _, hnil, -⟩ := Memory.exists_head_le hn hm (h _ hk).symm
      cases hnil
  | cons kw m ih =>
    obtain ⟨k, w⟩ := kw
    obtain ⟨-, hk, -, hm'⟩ := Memory.wfFrom_cons.mp hm
    obtain ⟨k', w', n', rfl, hle⟩ := Memory.exists_head_le hm hn (h k hk)
    obtain ⟨-, hk', -, hn'⟩ := Memory.wfFrom_cons.mp hn
    obtain ⟨_, _, _, hcons, hge⟩ := Memory.exists_head_le hn hm (h k' hk').symm
    cases hcons
    obtain rfl : k = k' := Nat.le_antisymm hge hle
    have hw : w = w' := by simpa only [Memory.read_cons_self] using h k hk
    rw [hw, ih hm' hn' fun a ha => Memory.read_tail_eq hm' hn' (h a ha)]

/-- Settles O13, by induction on the cells. -/
theorem canonicalMemoryIsUnique : Obligations.CanonicalMemoryIsUnique := fun _ _ hm hn h =>
  Memory.eq_of_read_eq hm hn fun a ha => h (BitVec.ofNatLT a ha)

/-! The addresses that the storing families store to (20_memory.md R46). -/

@[simp] theorem storedAt_movMR (s : State) (src : Reg) : storedAt s (.movMR src) = [s.hl] := by cases src <;> rfl

@[simp] theorem storedAt_stax (s : State) (p : IndexPair) : storedAt s (.stax p) = [s.indexAddress p] := by
  cases p <;> rfl

@[simp] theorem storedAt_push (s : State) (p : StackPair) : storedAt s (.push p) = stackBytes s := by cases p <;> rfl

theorem storedAt_of_mem_calls (s : State) {i : Instr} {a16 : Word} (h : i ∈ Instr.calls a16) :
    storedAt s i = stackBytes s := by
  simp only [Instr.calls, List.mem_cons, List.not_mem_nil, or_false] at h
  obtain rfl | rfl | rfl | rfl := h <;> rfl

/-- A conditional call that is taken stores as a call does. -/
theorem storedAt_callIf {s : State} {cond : Cond} (a16 : Word) (hc : s.flags.cond cond = true) :
    storedAt s (.callIf cond a16) = stackBytes s := by
  cases cond with
  | nz | nc | po | p => exact if_neg (by simpa [Flags.cond] using hc)
  | z | c | pe | m => exact if_pos hc

theorem storedAt_rst (s : State) (n : Fin 8) : storedAt s (.rst n) = stackBytes s := by
  fin_cases n <;> rfl

/-! What the storing operations keep. -/

theorem State.readByte_writeByte_of_notMem (s : State) {a b : Word} (v : Byte) (h : b ∉ [a]) :
    (s.writeByte a v).readByte b = s.readByte b :=
  s.readByte_writeByte_of_ne v (List.mem_singleton.not.mp h)

theorem State.readByte_writeWord_of_notMem (s : State) {a b : Word} (v : Word) (h : b ∉ [a, a + 1]) :
    (s.writeWord a v).readByte b = s.readByte b := by
  obtain ⟨h1, h2⟩ : b ≠ a ∧ b ≠ a + 1 := by simpa using h
  exact s.readByte_writeWord_of_ne v h1 h2

theorem State.readByte_push16_of_notMem (s : State) {b : Word} (v : Word) (h : b ∉ stackBytes s) :
    (s.push16 v).readByte b = s.readByte b := by
  obtain ⟨h1, h2⟩ : b ≠ s.sp - 1 ∧ b ≠ s.sp - 2 := by simpa [stackBytes] using h
  exact s.readByte_push16_of_ne v h1 h2

/-- A byte outside the addresses stored to reads as before. -/
theorem Effect.readByte_of_notMem {s t : State} {i : Instr} (he : Effect s t i) {a : Word}
    (h : a ∉ storedAt s i) : t.readByte a = s.readByte a := by
  cases he with
  | movMR | stax => exact s.readByte_writeByte_of_notMem _ (by simpa using h)
  | mviM | sta => exact s.readByte_writeByte_of_notMem _ h
  | inr d | dcr d =>
    cases d with
    | reg r => rfl
    | mem => exact s.readByte_writeByte_of_notMem _ h
  | shld | xthl => exact s.readByte_writeWord_of_notMem _ h
  | push => exact s.readByte_push16_of_notMem _ (by simpa using h)
  | pushPSW => exact s.readByte_push16_of_notMem _ h
  | call _ hi => exact s.readByte_push16_of_notMem _ (storedAt_of_mem_calls s hi ▸ h)
  | callTaken _ a16 hc => exact s.readByte_push16_of_notMem _ (storedAt_callIf a16 hc ▸ h)
  | rst n => exact s.readByte_push16_of_notMem _ (storedAt_rst s n ▸ h)
  | lxi | inx | dcx => exact State.readByte_congr (s.setPair_mem _ _) a
  | pop => exact State.readByte_congr (s.drop16.setStackPair_mem _ _) a
  | _ => rfl

/-- Settles O27, from the family that the instruction belongs to. -/
theorem memoryIsKeptOutsideTheStore : Obligations.MemoryIsKeptOutsideTheStore :=
  fun _ _ _ _ ha h => (effect_of_exec h).readByte_of_notMem ha

/-! The loads that are refused (20_memory.md R51; log entry 12). -/

theorem resetTo_of_not_imageFits {p : Setup} (h : p.imageFits = false) (s : State) :
    s.resetTo (some p) = .refused .imageDoesNotFit := by
  simp only [State.resetTo, h, Bool.false_eq_true, if_false]

theorem resetTo_of_not_progEndInRange {p : Setup} (hfits : p.imageFits = true) (h : p.progEndInRange = false)
    (s : State) : s.resetTo (some p) = .refused .progEndOutOfRange := by
  simp only [State.resetTo, hfits, h, Bool.false_eq_true, if_true, if_false]

/-- Settles O60, from the order of the two checks. -/
theorem unfitSetupIsRefused : Obligations.UnfitSetupIsRefused := fun s _ =>
  ⟨fun h => resetTo_of_not_imageFits (decide_eq_false (Nat.not_le.mpr h)) s,
    fun hfits h => resetTo_of_not_progEndInRange (decide_eq_true hfits) (decide_eq_false (Nat.not_le.mpr h)) s⟩

end Sys2Proof.Machine

/-! PROOFS. The encoding: the encoder against the opcode table, the decoder, and the lengths and flags that the table
declares (30_encoding.md). -/

namespace Sys2Proof.Machine

/-! What each form of the table fixes (30_encoding.md R62, R63). -/

theorem OpcodeDef.length_of_f1 {d : OpcodeDef} {i : Instr} (h : d.form = .f1 i) : d.length = 1 := by
  rw [OpcodeDef.length, h]

theorem OpcodeDef.length_of_f2 {d : OpcodeDef} {mk : Byte → Instr} (h : d.form = .f2 mk) : d.length = 2 := by
  rw [OpcodeDef.length, h]

theorem OpcodeDef.length_of_f3 {d : OpcodeDef} {mk : Word → Instr} (h : d.form = .f3 mk) : d.length = 3 := by
  rw [OpcodeDef.length, h]

theorem assemble_of_f1 {op : Byte} {i : Instr} (h : (lookup op).form = .f1 i) (b2 b3 : Byte) :
    assemble op b2 b3 = i := by
  rw [assemble, h]

theorem assemble_of_f2 {op : Byte} {mk : Byte → Instr} (h : (lookup op).form = .f2 mk) (b2 b3 : Byte) :
    assemble op b2 b3 = mk b2 := by
  rw [assemble, h]

theorem assemble_of_f3 {op : Byte} {mk : Word → Instr} (h : (lookup op).form = .f3 mk) (b2 b3 : Byte) :
    assemble op b2 b3 = mk (wordOf b3 b2) := by
  rw [assemble, h]

/-! The encoder, written from the bit patterns (30_encoding.md R65 to R70), against the table, written from the map
(R64). -/

/-- The form `f` of opcode `op` makes `i` of some operand, and the encoder lays down `op` and the operand, a word's low
byte first, whatever the operand is. -/
def FormAgrees (op : Byte) (f : Form) (i : Instr) : Prop :=
  match f with
  | .f1 j => j = i ∧ encode j = [op]
  | .f2 mk => (∃ d8, mk d8 = i) ∧ ∀ d8, encode (mk d8) = [op, d8]
  | .f3 mk => (∃ w, mk w = i) ∧ ∀ w, encode (mk w) = [op, lowByte w, highByte w]

theorem formAgrees_of_byteOperand {mk : Byte → Instr} {op : Byte} (henc : ∀ d8, encode (mk d8) = [op, d8])
    (htab : (lookup op).form = .f2 mk) (d8 : Byte) :
    FormAgrees (mk d8).opcode (lookup (mk d8).opcode).form (mk d8) := by
  have hop : (mk d8).opcode = op := by rw [Instr.opcode, henc, List.headD_cons]
  rw [hop, htab]
  exact ⟨⟨d8, rfl⟩, henc⟩

theorem formAgrees_of_wordOperand {mk : Word → Instr} {op : Byte}
    (henc : ∀ w, encode (mk w) = [op, lowByte w, highByte w]) (htab : (lookup op).form = .f3 mk) (w : Word) :
    FormAgrees (mk w).opcode (lookup (mk w).opcode).form (mk w) := by
  have hop : (mk w).opcode = op := by rw [Instr.opcode, henc, List.headD_cons]
  rw [hop, htab]
  exact ⟨⟨w, rfl⟩, henc⟩

/-- The table and the encoder agree on every instruction: 18 have a byte and 30 a word for operand, the others none. -/
theorem formAgrees_lookup_opcode (i : Instr) : FormAgrees i.opcode (lookup i.opcode).form i := by
  cases i with
  | mviB x | mviC x | mviD x | mviE x | mviH x | mviL x | mviA x | mviM x
  | adi x | aci x | sui x | sbi x | ani x | xri x | ori x | cpi x | inPort x | outPort x =>
    exact formAgrees_of_byteOperand (fun _ => rfl) rfl x
  | lxiB x | lxiD x | lxiH x | lxiSP x | lda x | sta x | lhld x | shld x
  | jmp x | jnz x | jz x | jnc x | jc x | jpo x | jpe x | jp x | jm x | jmpCB x
  | call x | cnz x | cz x | cnc x | cc x | cpo x | cpe x | cp x | cm x | callDD x | callED x | callFD x =>
    exact formAgrees_of_wordOperand (fun _ => rfl) rfl x
  | _ => exact ⟨rfl, rfl⟩

/-- Every instruction is in the table, under its opcode. -/
theorem exists_assemble_opcode (i : Instr) : ∃ b2 b3, assemble i.opcode b2 b3 = i := by
  have hagree := formAgrees_lookup_opcode i
  cases hform : (lookup i.opcode).form with rw [hform] at hagree
  | f1 j =>
    obtain ⟨hj, -⟩ := hagree
    exact ⟨0, 0, (assemble_of_f1 hform _ _).trans hj⟩
  | f2 mk =>
    obtain ⟨⟨d8, hmk⟩, -⟩ := hagree
    exact ⟨d8, 0, (assemble_of_f2 hform _ _).trans hmk⟩
  | f3 mk =>
    obtain ⟨⟨w, hmk⟩, -⟩ := hagree
    exact ⟨lowByte w, highByte w, by rw [assemble_of_f3 hform, wordOf_highByte_lowByte, hmk]⟩

/-- An instruction is encoded as the bytes that it is assembled from, as many as its opcode's length. -/
theorem encode_assemble (op b2 b3 : Byte) :
    encode (assemble op b2 b3) = [op, b2, b3].take (lookup op).length := by
  have hagree := formAgrees_lookup_opcode (assemble op b2 b3)
  rw [opcode_assemble] at hagree
  cases hform : (lookup op).form with rw [hform] at hagree
  | f1 i =>
    obtain ⟨-, henc⟩ := hagree
    rw [assemble_of_f1 hform, OpcodeDef.length_of_f1 hform, henc]
    rfl
  | f2 mk =>
    obtain ⟨-, henc⟩ := hagree
    rw [assemble_of_f2 hform, OpcodeDef.length_of_f2 hform, henc]
    rfl
  | f3 mk =>
    obtain ⟨-, henc⟩ := hagree
    rw [assemble_of_f3 hform, OpcodeDef.length_of_f3 hform, henc, lowByte_wordOf, highByte_wordOf]
    rfl

/-! The decoder. -/

/-- Where the bytes that an opcode's length asks for are there, the decoder answers what they assemble to. -/
theorem decode_take_append (op b2 b3 : Byte) (rest : List Byte) :
    decode ([op, b2, b3].take (lookup op).length ++ rest) = .ok (assemble op b2 b3, rest) := by
  cases hform : (lookup op).form with
  | f1 i => simp [decode, hform, OpcodeDef.length_of_f1 hform, assemble_of_f1 hform]
  | f2 mk => simp [decode, hform, OpcodeDef.length_of_f2 hform, assemble_of_f2 hform]
  | f3 mk => simp [decode, hform, OpcodeDef.length_of_f3 hform, assemble_of_f3 hform]

/-- The decoder answers nothing else (30_encoding.md R60 to R63). -/
theorem eq_take_append_of_decode {bytes rest : List Byte} {i : Instr} : decode bytes = .ok (i, rest) →
    ∃ op b2 b3, bytes = [op, b2, b3].take (lookup op).length ++ rest ∧ i = assemble op b2 b3 := by
  fun_cases decode bytes with
  | case2 op tail j hform =>
    rintro ⟨⟩
    exact ⟨op, 0, 0, by simp [OpcodeDef.length_of_f1 hform], (assemble_of_f1 hform _ _).symm⟩
  | case3 op mk hform b2 tail =>
    rintro ⟨⟩
    exact ⟨op, b2, 0, by simp [OpcodeDef.length_of_f2 hform], (assemble_of_f2 hform _ _).symm⟩
  | case5 op mk hform b2 b3 tail =>
    rintro ⟨⟩
    exact ⟨op, b2, b3, by simp [OpcodeDef.length_of_f3 hform], (assemble_of_f3 hform _ _).symm⟩
  | _ => rintro ⟨⟩

/-- Settles O1: every instruction is assembled from its opcode and operand bytes, and these are what the encoder lays down
and the decoder reads. -/
theorem decodeUndoesEncode : Obligations.DecodeUndoesEncode := by
  intro i rest
  obtain ⟨b2, b3, hi⟩ := exists_assemble_opcode i
  calc decode (encode i ++ rest)
    _ = decode ([i.opcode, b2, b3].take (lookup i.opcode).length ++ rest) := by rw [← encode_assemble, hi]
    _ = .ok (i, rest) := by rw [decode_take_append, hi]

/-- Settles O2: the bytes read are those that the instruction is assembled from. -/
theorem encodeUndoesDecode : Obligations.EncodeUndoesDecode := by
  intro bytes rest i h
  obtain ⟨op, b2, b3, rfl, rfl⟩ := eq_take_append_of_decode h
  rw [encode_assemble]

/-- Settles O3, case by case of the decoder: it answers in one case of each form, and a byte is missing in the others. -/
theorem decodeFailsOnlyOnMissingBytes : Obligations.DecodeFailsOnlyOnMissingBytes := by
  intro bytes
  fun_cases decode bytes with
  | case1 => simp
  | case2 op tail i hform => simp [OpcodeDef.length_of_f1 hform]
  | case3 op mk hform | case4 op mk hform => simp [OpcodeDef.length_of_f2 hform]
  | case5 op mk hform | case6 op mk hform | case7 op mk hform => simp [OpcodeDef.length_of_f3 hform]

/-- Settles O4: the decoder evaluates each word. -/
theorem sampleWordsDecode : Obligations.SampleWordsDecode :=
  ⟨rfl, rfl, rfl, rfl, rfl, rfl, rfl, rfl, rfl, rfl, rfl, rfl, rfl, rfl, rfl⟩

/-! The declared lengths and flags, each a check of the 256 opcode bytes against the spec's list. -/

/-- Settles O5: the length that the form gives, against the lists of R74. -/
theorem opcodeLengths : Obligations.OpcodeLengths := by
  unfold Obligations.OpcodeLengths
  exact of_decide_eq_true rfl

/-- Settles O6: the flags column, against the table of R75. -/
theorem declaredFlags : Obligations.DeclaredFlags := by
  unfold Obligations.DeclaredFlags
  exact of_decide_eq_true rfl

end Sys2Proof.Machine

/-! PROOFS. The condition codes: the five setters and the branch conditions, the flags an instruction does not declare,
and the law that DCR undoes INR (40_condition_codes.md). -/

namespace Sys2Proof.Machine

open Claims

/-! The setters, each in the words of 10_state.md R16 (40_condition_codes.md R80 to R84); Z, S and P are those of
`zsp`. -/

theorem Flags.setZero_eq (f : Flags) (n : Nat) : f.setZero n = { f with z := decide (BitVec.ofNat 8 n = 0) } :=
  congrArg (fun g : Flags => { f with z := g.z }) (Flags.zsp_eq n f)

theorem Flags.setSign_eq (f : Flags) (n : Nat) : f.setSign n = { f with s := (BitVec.ofNat 8 n).getLsbD 7 } :=
  congrArg (fun g : Flags => { f with s := g.s }) (Flags.zsp_eq n f)

theorem Flags.setParity_eq (f : Flags) (n : Nat) : f.setParity n = { f with p := evenParity (BitVec.ofNat 8 n) } :=
  congrArg (fun g : Flags => { f with p := g.p }) (Flags.zsp_eq n f)

theorem Flags.setCarry_eq (f : Flags) (n width : Nat) :
    f.setCarry n width = { f with cy := decide (2 ^ width ≤ n) } := by
  have hcy : n > 2 ^ width - 1 ↔ 2 ^ width ≤ n := by
    have hpos := Nat.two_pow_pos width
    omega
  rw [Flags.setCarry, decide_eq_decide.mpr hcy]

theorem Flags.setAuxCarry_eq (f : Flags) (aLo bLo cin : Nat) :
    f.setAuxCarry aLo bLo cin = { f with ac := decide (16 ≤ aLo + bLo + cin) } := rfl

/-- Settles O8, setter by setter. -/
theorem settersWriteOneFlag : Obligations.SettersWriteOneFlag := fun f result width aLo bLo cin =>
  ⟨f.setZero_eq result, f.setSign_eq result, f.setParity_eq result, f.setCarry_eq result width,
    f.setAuxCarry_eq aLo bLo cin⟩

/-- Settles O9: `Flags.cond` and `Cond.code` are the two columns of R90's table. -/
theorem branchConditions : Obligations.BranchConditions := fun _ => ⟨rfl, rfl⟩

/-! The flags that the families declare (30_encoding.md R75). -/

@[simp] theorem flags_alu (op : AluOp) (src : Src) : (Instr.alu op src).flags = allFlags := by
  cases src with
  | reg r => cases op <;> cases r <;> rfl
  | mem => cases op <;> rfl

@[simp] theorem flags_aluImm (op : AluOp) (d8 : Byte) : (Instr.aluImm op d8).flags = allFlags := by
  have hop : (Instr.aluImm op d8).opcode = (Instr.aluImm op 0).opcode := by cases op <;> rfl
  rw [Instr.flags, hop]
  cases op <;> rfl

@[simp] theorem flags_inr (d : Src) : (Instr.inr d).flags = countFlags := by
  cases d with
  | reg r => cases r <;> rfl
  | mem => rfl

@[simp] theorem flags_dcr (d : Src) : (Instr.dcr d).flags = countFlags := by
  cases d with
  | reg r => cases r <;> rfl
  | mem => rfl

@[simp] theorem flags_dad (p : Pair) : (Instr.dad p).flags = carryOnly := by cases p <;> rfl

/-! A flag outside each of the declared lists. -/

theorem mem_allFlags (n : FlagName) : n ∈ allFlags := by cases n <;> decide

/-- The one flag that INR and DCR do not declare is CY. -/
theorem eq_cy_of_notMem_countFlags {n : FlagName} (h : n ∉ countFlags) : n = .cy := by
  cases n with
  | cy => rfl
  | z | s | p | ac => exact absurd (by decide) h

/-- A write to CY leaves the flags outside `carryOnly` as they were. -/
theorem flag_setCy_of_notMem (f : Flags) (b : Bool) {n : FlagName} (h : n ∉ carryOnly) :
    flag { f with cy := b } n = flag f n := by
  cases n with
  | cy => exact absurd (List.mem_singleton_self _) h
  | z | s | p | ac => rfl

/-- A flag that the instruction does not declare keeps its value. -/
theorem Effect.flag_of_notMem {s t : State} {i : Instr} (he : Effect s t i) {n : FlagName} (h : n ∉ i.flags) :
    flag t.flags n = flag s.flags n := by
  cases he with
  | alu | aluImm => exact absurd (mem_allFlags n) (by simpa using h)
  | daa | popPSW => exact absurd (mem_allFlags n) h
  | inr | dcr =>
    obtain rfl := eq_cy_of_notMem_countFlags (by simpa using h)
    simp [State.increment_eq, State.decrement_eq, flag]
  | dad => exact flag_setCy_of_notMem s.flags _ (by simpa using h)
  | rlc | rrc | ral | rar | cmc | stc => exact flag_setCy_of_notMem s.flags _ h
  | lxi | inx | dcx => exact congrArg (flag · n) (s.setPair_flags _ _)
  | pop => exact congrArg (flag · n) (s.drop16.setStackPair_flags _ _)
  | _ => rfl

/-- Settles O24, from the family that the instruction belongs to. -/
theorem undeclaredFlagsAreKept : Obligations.UndeclaredFlagsAreKept :=
  fun _ _ _ _ hn h => (effect_of_exec h).flag_of_notMem hn

/-! INR and DCR (43_arithmetic.md R152 to R155). -/

theorem exec_inr (d : Src) (s : State) : exec (.inr d) s = .next (s.increment d) := by
  cases d with
  | reg r => cases r <;> rfl
  | mem => rfl

theorem exec_dcr (d : Src) (s : State) : exec (.dcr d) s = .next (s.decrement d) := by
  cases d with
  | reg r => cases r <;> rfl
  | mem => rfl

@[simp] theorem State.source_setFlags (s : State) (f : Flags) (d : Src) : (s.setFlags f).source d = s.source d := by
  cases d <;> rfl

@[simp] theorem State.source_advance (s : State) (n : Word) (d : Src) : (s.advance n).source d = s.source d := by
  cases d <;> rfl

/-- What is stored to a register or to M is read back from it: a store to M keeps HL. -/
theorem State.source_setDest {s : State} (hs : s.mem.wf = true) (d : Src) (v : Byte) :
    (s.setDest d v).source d = v := by
  cases d with
  | reg r => exact Regs.get_set_self s.regs r v
  | mem => exact (State.readByte_writeByte hs s.hl s.hl v).trans (if_pos rfl)

theorem State.source_increment {s : State} (hs : s.mem.wf = true) (d : Src) :
    (s.increment d).source d = s.source d + 1 := by
  rw [State.increment, State.source_advance, State.source_setFlags, State.source_setDest hs, inc8_eq]

theorem State.source_decrement {s : State} (hs : s.mem.wf = true) (d : Src) :
    (s.decrement d).source d = s.source d - 1 := by
  rw [State.decrement, State.source_advance, State.source_setFlags, State.source_setDest hs, dec8_eq]

theorem State.wf_increment {s : State} (hs : s.mem.wf = true) (d : Src) : (s.increment d).mem.wf = true :=
  State.wf_setDest hs d _

/-- Settles O38: INR adds 1 to the register or M and keeps memory canonical, and DCR subtracts 1 from what it
reads back. -/
theorem dcrUndoesInr : Obligations.DcrUndoesInr := by
  intro s t u x hs ht hu
  rw [exec_inr] at ht
  cases ht
  rw [exec_dcr] at hu
  cases hu
  calc ((s.increment x).decrement x).source x
    _ = (s.increment x).source x - 1 := State.source_decrement (State.wf_increment hs x) x
    _ = s.source x + 1 - 1 := by rw [State.source_increment hs]
    _ = s.source x := BitVec.add_sub_cancel _ _

end Sys2Proof.Machine

/-! PROOFS. The sequencer: the ways a step can go, the run states that only a reset leaves, and the advance of PC
(41_sequencer.md). -/

namespace Sys2Proof.Machine

open Claims

/-- Settles O18: every instruction answers the next state that its family says. -/
theorem everyInstructionCompletes : Obligations.EveryInstructionCompletes := by
  intro i s
  obtain ⟨t, ht, -⟩ := exec_next_effect i s
  exact ⟨t, ht⟩

/-! The three ways a step of a running machine can go (41_sequencer.md R100), and the two states in which there is none
(R111, R112). -/

theorem step_of_pastProgramEnd {s : State} (hrun : s.run = .running) (hend : s.pastProgramEnd = true) :
    step s = .next s := by
  rw [step_running hrun, State.runStep, if_pos hend]

theorem step_of_not_implements {s : State} (hrun : s.run = .running) (hpc : s.pastProgramEnd = false)
    (himp : s.implements s.fetchOpcode = false) :
    step s = .next (s.raiseFaulted .unimplementedOpcode s.pc s.fetchOpcode) := by
  rw [step_running hrun, State.runStep, hpc, himp]
  rfl

theorem step_of_implements {s : State} (hrun : s.run = .running) (hpc : s.pastProgramEnd = false)
    (himp : s.implements s.fetchOpcode = true) : step s = exec s.fetchInstr s := by
  rw [step_running hrun, State.runStep, hpc, himp]
  rfl

theorem step_of_halted {s : State} (h : s.run = .halted) : step s = .fault .stepWhileHalted := by
  rw [step, h]

theorem step_of_goneWrong {s : State} (h : s.goneWrong) : step s = .fault .stepWhileFaulted := by
  obtain ⟨record, hrun⟩ := h
  rw [step, hrun]

theorem State.status_of_pastProgramEnd {s : State} (hrun : s.run = .running) (hend : s.pastProgramEnd = true) :
    s.status = .endOfProgram := by
  rw [State.status, hrun]
  exact if_pos hend

/-- The decoder reads three bytes as `fetchInstr` does, and leaves those past the length of the opcode. -/
theorem decode_three_bytes (op b2 b3 : Byte) :
    decode [op, b2, b3] = .ok (assemble op b2 b3, [op, b2, b3].drop (lookup op).length) := by
  simpa only [List.take_append_drop] using decode_take_append op b2 b3 ([op, b2, b3].drop (lookup op).length)

/-- Settles O14: the bytes at PC have one reading, and it is `fetchInstr`. -/
theorem stepRunsTheInstructionAtPc : Obligations.StepRunsTheInstructionAtPc := by
  intro s i rest hrun hpc himp hdec
  have hfetch : s.fetchInstr = i := by
    rw [decode_three_bytes] at hdec
    cases hdec
    rfl
  rw [← hfetch]
  exact step_of_implements hrun (s.pastProgramEnd_eq_false_iff.mpr hpc) ((s.implements_iff _).mpr himp)

/-- Settles O15, from the look-up that fails. -/
theorem opcodeWithoutHandlerFaults : Obligations.OpcodeWithoutHandlerFaults := fun s hrun hpc himp =>
  ⟨step_of_not_implements hrun (s.pastProgramEnd_eq_false_iff.mpr hpc) ((s.implements_eq_false_iff _).mpr himp), rfl⟩

/-- Settles O16, from the end-of-program test. -/
theorem endOfProgramChangesNothing : Obligations.EndOfProgramChangesNothing := fun s hrun hend =>
  have hend : s.pastProgramEnd = true := s.pastProgramEnd_iff.mpr hend
  ⟨step_of_pastProgramEnd hrun hend, State.status_of_pastProgramEnd hrun hend⟩

/-! Halted and Faulted (41_sequencer.md R110 to R112). -/

theorem ne_running_of_stopped {s : State} (h : s.run = .halted ∨ s.goneWrong) : s.run ≠ .running := by
  obtain h | ⟨record, h⟩ := h <;> simp [h]

/-- A stopped machine ignores an interrupt request (60_exceptions.md R274). -/
theorem State.irq_of_ne_running {s : State} (h : s.run ≠ .running) (n : Fin 8) : s.irq n = s := by
  obtain ⟨hacc, -⟩ | ⟨-, hirq⟩ := s.irq_cases n
  · obtain ⟨hrun, -⟩ := s.acceptsIrq_iff.mp hacc
    exact absurd hrun h
  · exact hirq

/-- Only a running machine's step answers a next state. -/
theorem step_ne_next_of_ne_running {s t : State} (h : s.run ≠ .running) : step s ≠ .next t := by
  intro hstep
  obtain ⟨hrun, -⟩ := step_cases hstep
  exact h hrun

/-- Settles O17, event by event. -/
theorem stoppedStatesAreLeftOnlyByReset : Obligations.StoppedStatesAreLeftOnlyByReset := by
  refine fun s => ⟨step_of_halted, step_of_goneWrong, fun hstop e t he => ?_⟩
  have hrun := ne_running_of_stopped hstop
  cases e with
  | step => exact absurd he (step_ne_next_of_ne_running hrun)
  | irq n =>
    cases he
    exact .inr ⟨⟨n, rfl⟩, State.irq_of_ne_running hrun n⟩
  | reset load => exact .inl ⟨load, rfl⟩

/-! The declared lengths of the families (30_encoding.md R74). Where an operand stands in the instruction, the length is
read off the encoding, which is evaluated with the operand left open. -/

/-- The encoder lays down as many bytes as the table declares. -/
theorem length_encode (i : Instr) : (encode i).length = i.length := by
  obtain ⟨b2, b3, hi⟩ := exists_assemble_opcode i
  have henc := encode_assemble i.opcode b2 b3
  have hle : (lookup i.opcode).length ≤ 3 := by
    cases hform : (lookup i.opcode).form with
    | f1 => rw [OpcodeDef.length_of_f1 hform]; decide
    | f2 => rw [OpcodeDef.length_of_f2 hform]; decide
    | f3 => rw [OpcodeDef.length_of_f3 hform]
  rw [hi] at henc
  rw [henc, List.length_take, Instr.length]
  exact Nat.min_eq_left hle

@[simp] theorem length_movRR (dst src : Reg) : (Instr.movRR dst src).length = 1 := by
  cases dst <;> cases src <;> rfl

@[simp] theorem length_movRM (dst : Reg) : (Instr.movRM dst).length = 1 := by cases dst <;> rfl

@[simp] theorem length_movMR (src : Reg) : (Instr.movMR src).length = 1 := by cases src <;> rfl

@[simp] theorem length_mviR (dst : Reg) (d8 : Byte) : (Instr.mviR dst d8).length = 2 := by
  rw [← length_encode]
  cases dst <;> rfl

@[simp] theorem length_lxi (p : Pair) (d16 : Word) : (Instr.lxi p d16).length = 3 := by
  rw [← length_encode]
  cases p <;> rfl

@[simp] theorem length_ldax (p : IndexPair) : (Instr.ldax p).length = 1 := by cases p <;> rfl

@[simp] theorem length_stax (p : IndexPair) : (Instr.stax p).length = 1 := by cases p <;> rfl

@[simp] theorem length_alu (op : AluOp) (src : Src) : (Instr.alu op src).length = 1 := by
  cases src with
  | reg r => cases op <;> cases r <;> rfl
  | mem => cases op <;> rfl

@[simp] theorem length_aluImm (op : AluOp) (d8 : Byte) : (Instr.aluImm op d8).length = 2 := by
  rw [← length_encode]
  cases op <;> rfl

@[simp] theorem length_inr (d : Src) : (Instr.inr d).length = 1 := by
  cases d with
  | reg r => cases r <;> rfl
  | mem => rfl

@[simp] theorem length_dcr (d : Src) : (Instr.dcr d).length = 1 := by
  cases d with
  | reg r => cases r <;> rfl
  | mem => rfl

@[simp] theorem length_inx (p : Pair) : (Instr.inx p).length = 1 := by cases p <;> rfl

@[simp] theorem length_dcx (p : Pair) : (Instr.dcx p).length = 1 := by cases p <;> rfl

@[simp] theorem length_dad (p : Pair) : (Instr.dad p).length = 1 := by cases p <;> rfl

@[simp] theorem length_push (p : StackPair) : (Instr.push p).length = 1 := by cases p <;> rfl

@[simp] theorem length_pop (p : StackPair) : (Instr.pop p).length = 1 := by cases p <;> rfl

theorem length_of_mem_nops : ∀ i ∈ Instr.nops, i.length = 1 := by decide

/-! The families that can transfer control (41_sequencer.md R106). -/

theorem transfers_of_mem_jumps {i : Instr} {a16 : Word} (h : i ∈ Instr.jumps a16) : transfers i = true := by
  simp only [Instr.jumps, List.mem_cons, List.not_mem_nil, or_false] at h
  obtain rfl | rfl := h <;> rfl

theorem transfers_of_mem_calls {i : Instr} {a16 : Word} (h : i ∈ Instr.calls a16) : transfers i = true := by
  simp only [Instr.calls, List.mem_cons, List.not_mem_nil, or_false] at h
  obtain rfl | rfl | rfl | rfl := h <;> rfl

theorem transfers_of_mem_rets : ∀ i ∈ Instr.rets, transfers i = true := by decide

theorem transfers_jumpIf (cond : Cond) (a16 : Word) : transfers (.jumpIf cond a16) = true := by cases cond <;> rfl

theorem transfers_callIf (cond : Cond) (a16 : Word) : transfers (.callIf cond a16) = true := by cases cond <;> rfl

theorem transfers_retIf (cond : Cond) : transfers (.retIf cond) = true := by cases cond <;> rfl

theorem transfers_rst : ∀ n, transfers (.rst n) = true := by decide

/-- An instruction that is no control transfer advances PC by its length. -/
theorem Effect.pc_eq {s t : State} {i : Instr} (h : Effect s t i) (htr : transfers i = false) :
    t.pc = s.pc + BitVec.ofNat 16 i.length := by
  cases h with
  | jmp _ hi => simp [transfers_of_mem_jumps hi] at htr
  | jumpTaken | jumpNotTaken => simp [transfers_jumpIf] at htr
  | pchl => cases htr
  | call _ hi => simp [transfers_of_mem_calls hi] at htr
  | callTaken | callNotTaken => simp [transfers_callIf] at htr
  | ret hi => simp [transfers_of_mem_rets _ hi] at htr
  | retTaken | retNotTaken => simp [transfers_retIf] at htr
  | rst => simp [transfers_rst] at htr
  | nop hi => rw [length_of_mem_nops _ hi]; rfl
  | movRR | movRM | movMR | mviR | lxi =>
    simp [State.moveRegister, State.moveFromM, State.moveToM, State.moveImmediate, State.loadPair]
  | ldax | stax => simp [State.loadA, State.storeA]
  | alu | aluImm => simp [State.accumulate]
  | inr | dcr => simp [State.increment, State.decrement]
  | inx | dcx | dad => simp [State.incrementPair, State.decrementPair, State.addToHl]
  | push | pop => simp
  | _ => rw [← length_encode]; rfl

/-! The conditional transfers (45_branch.md R201 to R226): their meanings, and that they advance PC where the condition
is false. -/

theorem exec_jumpIf (cond : Cond) (a16 : Word) (s : State) :
    exec (.jumpIf cond a16) s = .next (s.jumpWhen cond a16) := by cases cond <;> rfl

theorem exec_callIf (cond : Cond) (a16 : Word) (s : State) :
    exec (.callIf cond a16) s = .next (s.callWhen cond a16) := by cases cond <;> rfl

theorem exec_retIf (cond : Cond) (s : State) : exec (.retIf cond) s = .next (s.returnWhen cond) := by
  cases cond <;> rfl

section NotTaken

variable {s : State} {cond : Cond} (hc : s.flags.cond cond = false)
include hc

theorem State.jumpWhen_of_not_cond (a16 : Word) : s.jumpWhen cond a16 = s.advance 3 := by
  rw [State.jumpWhen, hc]
  rfl

theorem State.callWhen_of_not_cond (a16 : Word) : s.callWhen cond a16 = s.advance 3 := by
  rw [State.callWhen, hc]
  rfl

theorem State.returnWhen_of_not_cond : s.returnWhen cond = s.advance 1 := by
  rw [State.returnWhen, hc]
  rfl

end NotTaken

/-- Settles O23: the first part from the family that the instruction belongs to, the second from the conditions. -/
theorem pcAdvancesByTheLength : Obligations.PcAdvancesByTheLength := by
  refine ⟨fun i s t htr h => (effect_of_exec h).pc_eq htr, fun cond a16 s hc => ⟨?_, ?_, ?_⟩⟩
  · rw [exec_jumpIf, State.jumpWhen_of_not_cond hc]
    rfl
  · rw [exec_callIf, State.callWhen_of_not_cond hc]
    rfl
  · rw [exec_retIf, State.returnWhen_of_not_cond hc]
    rfl

end Sys2Proof.Machine

/-! PROOFS. Data transfer (42_data_transfer.md), XTHL and SPHL (46_stack_io_control.md): each instruction's bytes and
effect, and the exchanges that undo themselves. -/

namespace Sys2Proof.Machine

open Claims

/-! The bytes and the meaning of each family (30_encoding.md R65, R66). -/

theorem encode_movRR (dst src : Reg) : encode (.movRR dst src) = [opcodeBits 0b01 dst.code src.code] := by
  cases dst <;> cases src <;> rfl

theorem encode_movRM (dst : Reg) : encode (.movRM dst) = [opcodeBits 0b01 dst.code 0b110] := by cases dst <;> rfl

theorem encode_movMR (src : Reg) : encode (.movMR src) = [opcodeBits 0b01 0b110 src.code] := by cases src <;> rfl

theorem encode_mviR (dst : Reg) (d8 : Byte) : encode (.mviR dst d8) = [opcodeBits 0b00 dst.code 0b110, d8] := by
  cases dst <;> rfl

theorem encode_lxi (p : Pair) (d16 : Word) :
    encode (.lxi p d16) = [opcodePair 0b00 p.code 0b0001, lowByte d16, highByte d16] := by cases p <;> rfl

theorem encode_ldax (p : IndexPair) : encode (.ldax p) = [opcodePair 0b00 p.code 0b1010] := by cases p <;> rfl

theorem encode_stax (p : IndexPair) : encode (.stax p) = [opcodePair 0b00 p.code 0b0010] := by cases p <;> rfl

theorem exec_movRR (dst src : Reg) (s : State) : exec (.movRR dst src) s = .next (s.moveRegister dst src) := by
  cases dst <;> cases src <;> rfl

theorem exec_movRM (dst : Reg) (s : State) : exec (.movRM dst) s = .next (s.moveFromM dst) := by cases dst <;> rfl

theorem exec_movMR (src : Reg) (s : State) : exec (.movMR src) s = .next (s.moveToM src) := by cases src <;> rfl

theorem exec_mviR (dst : Reg) (d8 : Byte) (s : State) :
    exec (.mviR dst d8) s = .next (s.moveImmediate (.reg dst) d8) := by cases dst <;> rfl

theorem exec_mviM (d8 : Byte) (s : State) : exec (.mviM d8) s = .next (s.moveImmediate .mem d8) := rfl

theorem exec_lxi (p : Pair) (d16 : Word) (s : State) : exec (.lxi p d16) s = .next (s.loadPair p d16) := by
  cases p <;> rfl

theorem exec_lda (a16 : Word) (s : State) : exec (.lda a16) s = .next (s.loadA a16 3) := rfl

theorem exec_sta (a16 : Word) (s : State) : exec (.sta a16) s = .next (s.storeA a16 3) := rfl

theorem exec_lhld (a16 : Word) (s : State) :
    exec (.lhld a16) s = .next ((s.setHl (s.readWord a16)).advance 3) := rfl

theorem exec_shld (a16 : Word) (s : State) : exec (.shld a16) s = .next ((s.writeWord a16 s.hl).advance 3) := rfl

theorem exec_ldax (p : IndexPair) (s : State) : exec (.ldax p) s = .next (s.loadA (s.indexAddress p) 1) := by
  cases p <;> rfl

theorem exec_stax (p : IndexPair) (s : State) : exec (.stax p) s = .next (s.storeA (s.indexAddress p) 1) := by
  cases p <;> rfl

theorem exec_xchg (s : State) : exec .xchg s = .next (s.exchangeHlDe.advance 1) := rfl

theorem exec_cma (s : State) : exec .cma s = .next ((s.setReg .a (~~~s.regs.a)).advance 1) := rfl

theorem exec_sphl (s : State) : exec .sphl s = .next ((s.setSp s.hl).advance 1) := rfl

/-! A pair written from its two bytes, and HL written to memory (10_state.md R12). -/

@[simp] theorem State.setBc_wordOf (s : State) (hi lo : Byte) :
    s.setBc (wordOf hi lo) = { s with regs := { s.regs with b := hi, c := lo } } := by
  rw [State.setBc, highByte_wordOf, lowByte_wordOf]

@[simp] theorem State.setDe_wordOf (s : State) (hi lo : Byte) :
    s.setDe (wordOf hi lo) = { s with regs := { s.regs with d := hi, e := lo } } := by
  rw [State.setDe, highByte_wordOf, lowByte_wordOf]

@[simp] theorem State.setHl_wordOf (s : State) (hi lo : Byte) :
    s.setHl (wordOf hi lo) = { s with regs := { s.regs with h := hi, l := lo } } := by
  rw [State.setHl, highByte_wordOf, lowByte_wordOf]

theorem State.writeWord_hl (s : State) (a : Word) :
    s.writeWord a s.hl = { s with mem := (s.mem.write a.toNat s.regs.l).write (a + 1).toNat s.regs.h } := by
  rw [State.writeWord, State.hl, highByte_wordOf, lowByte_wordOf]
  rfl

/-- Settles O29, from the three MOV families. -/
theorem movMovesOneByte : Obligations.MovMovesOneByte := fun s dst r =>
  ⟨encode_movRR dst r, exec_movRR dst r s, encode_movRM dst, exec_movRM dst s, encode_movMR r, exec_movMR r s⟩

/-- Settles O30: the immediate word is the pair of its operand bytes. -/
theorem immediateLoads : Obligations.ImmediateLoads := by
  refine fun s dst d8 b2 b3 => ⟨encode_mviR dst d8, exec_mviR dst d8 s, rfl, exec_mviM d8 s, fun p => ?_, ?_, ?_, ?_,
    exec_lxi .sp _ s⟩
  · rw [encode_lxi, lowByte_wordOf, highByte_wordOf]
  · rw [exec_lxi, State.loadPair_eq, State.setPair, State.setBc_wordOf]
  · rw [exec_lxi, State.loadPair_eq, State.setPair, State.setDe_wordOf]
  · rw [exec_lxi, State.loadPair_eq, State.setPair, State.setHl_wordOf]

/-- Settles O31: LHLD and SHLD move the two bytes of HL, the others move A. -/
theorem directAndIndirectLoadsAndStores : Obligations.DirectAndIndirectLoadsAndStores := by
  refine fun s a16 => ⟨rfl, exec_lda a16 s, rfl, exec_sta a16 s, rfl, ?_, rfl, ?_,
    fun p => ⟨encode_ldax p, encode_stax p⟩, exec_ldax .bc s, exec_ldax .de s, exec_stax .bc s, exec_stax .de s⟩
  · rw [exec_lhld, State.readWord, State.setHl_wordOf]
    rfl
  · rw [exec_shld, State.writeWord_hl]
    rfl

/-! XTHL exchanges HL with the word at SP (46_stack_io_control.md R244). -/

/-- HL and the two bytes at SP change places; PC is not advanced. -/
def State.exchangeHlTop (s : State) : State := (s.writeWord s.sp s.hl).setHl s.top16

theorem exec_xthl (s : State) : exec .xthl s = .next (s.exchangeHlTop.advance 1) := rfl

theorem State.exchangeHlTop_eq (s : State) :
    s.exchangeHlTop = { s with
      regs := { s.regs with l := s.readByte s.sp, h := s.readByte (s.sp + 1) }
      mem := (s.mem.write s.sp.toNat s.regs.l).write (s.sp + 1).toNat s.regs.h } := by
  rw [State.exchangeHlTop, State.top16, State.setHl_wordOf, State.writeWord_hl]

/-- Settles O52, from the meanings of the three exchanges. -/
theorem exchangesWithHl : Obligations.ExchangesWithHl := by
  refine fun s => ⟨rfl, exec_xchg s, ?_, exec_sphl s⟩
  rw [exec_xthl, State.exchangeHlTop_eq]
  rfl

/-! The exchanges are involutions (R132, R244; 44_logical.md R186). -/

theorem State.exchangeHlDe_exchangeHlDe (s : State) : s.exchangeHlDe.exchangeHlDe = s := rfl

theorem State.setReg_a_not_not (s : State) :
    (s.setReg .a (~~~s.regs.a)).setReg .a (~~~(s.setReg .a (~~~s.regs.a)).regs.a) = s := by
  simp [State.setReg, Regs.set]

/-- In a canonical memory, storing back the word that another store replaced restores the state: every byte reads as
before, and the bytes determine a canonical memory. -/
theorem State.writeWord_writeWord_readWord {s : State} (hs : s.mem.wf = true) (a v : Word) :
    (s.writeWord a v).writeWord a (s.readWord a) = s := by
  have hwf := State.wf_writeWord hs a v
  have hread (b : Word) : ((s.writeWord a v).writeWord a (s.readWord a)).readByte b = s.readByte b := by
    rw [State.readByte_writeWord hwf]
    split
    · next hb => rw [hb, State.readWord, highByte_wordOf]
    · next hb1 =>
      split
      · next hb => rw [hb, State.readWord, lowByte_wordOf]
      · next hb => exact s.readByte_writeWord_of_ne v hb hb1
  have hmem : ((s.writeWord a v).writeWord a (s.readWord a)).mem = s.mem :=
    canonicalMemoryIsUnique _ _ (State.wf_writeWord hwf a _) hs hread
  exact congrArg (fun m => { s with mem := m }) hmem

theorem State.hl_setHl (s : State) (v : Word) : (s.setHl v).hl = v := s.pair_setPair .hl v

/-- The second exchange stores back the word that the first took from SP, and takes back HL. -/
theorem State.exchangeHlTop_exchangeHlTop {s : State} (hs : s.mem.wf = true) :
    s.exchangeHlTop.exchangeHlTop = s := by
  have hhl : s.exchangeHlTop.hl = s.top16 := State.hl_setHl _ _
  have htop : s.exchangeHlTop.top16 = s.hl := State.readWord_writeWord hs s.sp s.hl
  calc s.exchangeHlTop.exchangeHlTop
    _ = (s.exchangeHlTop.writeWord s.sp s.top16).setHl s.hl := by rw [State.exchangeHlTop, hhl, htop]; rfl
    _ = ((s.writeWord s.sp s.hl).writeWord s.sp (s.readWord s.sp)).setHl s.hl := rfl
    _ = s := by rw [State.writeWord_writeWord_readWord hs, State.hl, State.setHl_wordOf]

theorem repeated_succ {i : Instr} {s t : State} (h : exec i s = .next t) (n : Nat) :
    repeated i (n + 1) s = repeated i n t := by
  rw [repeated, h]

/-- Where an instruction of one byte applies `f`, which does not look at PC, and `f` undoes itself, two executions
advance PC and change nothing else. -/
theorem repeated_two_of_involution {i : Instr} {f : State → State} (hexec : ∀ s, exec i s = .next ((f s).advance 1))
    (hadv : ∀ s : State, f (s.advance 1) = (f s).advance 1) {s : State} (hf : f (f s) = s) :
    repeated i 2 s = some ((s.advance 1).advance 1) := by
  rw [repeated_succ (hexec s), repeated_succ (hexec _), hadv, hf]
  rfl

/-- Settles O53: the three exchanges are involutions that do not look at PC. -/
theorem exchangesUndoThemselves : Obligations.ExchangesUndoThemselves := fun s hs =>
  ⟨⟨_, repeated_two_of_involution exec_xchg (fun _ => rfl) s.exchangeHlDe_exchangeHlDe, rfl⟩,
    ⟨_, repeated_two_of_involution exec_cma (fun _ => rfl) s.setReg_a_not_not, rfl⟩,
    ⟨_, repeated_two_of_involution exec_xthl (fun _ => rfl) (State.exchangeHlTop_exchangeHlTop hs), rfl,
      fun _ => rfl⟩⟩

end Sys2Proof.Machine

/-! PROOFS. Arithmetic (43_arithmetic.md): the bytes of each family, the flag computations in the statements' words, the
single instructions, and decimal addition. -/

namespace Sys2Proof.Machine

open Claims

/-! The bytes and the meaning of each family (30_encoding.md R65, R67). -/

theorem encode_alu (op : AluOp) (src : Src) : encode (.alu op src) = [opcodeBits 0b10 op.code src.code] := by
  cases src with
  | reg r => cases op <;> cases r <;> rfl
  | mem => cases op <;> rfl

theorem exec_alu (op : AluOp) (src : Src) (s : State) :
    exec (.alu op src) s = .next (s.accumulate op (s.source src) 1) := by
  cases src with
  | reg r => cases op <;> cases r <;> rfl
  | mem => cases op <;> rfl

theorem exec_aluImm (op : AluOp) (d8 : Byte) (s : State) :
    exec (.aluImm op d8) s = .next (s.accumulate op d8 2) := by cases op <;> rfl

theorem encode_inr (d : Src) : encode (.inr d) = [opcodeBits 0b00 d.code 0b100] := by
  cases d with
  | reg r => cases r <;> rfl
  | mem => rfl

theorem encode_dcr (d : Src) : encode (.dcr d) = [opcodeBits 0b00 d.code 0b101] := by
  cases d with
  | reg r => cases r <;> rfl
  | mem => rfl

theorem encode_inx (p : Pair) : encode (.inx p) = [opcodePair 0b00 p.code 0b0011] := by cases p <;> rfl

theorem encode_dcx (p : Pair) : encode (.dcx p) = [opcodePair 0b00 p.code 0b1011] := by cases p <;> rfl

theorem encode_dad (p : Pair) : encode (.dad p) = [opcodePair 0b00 p.code 0b1001] := by cases p <;> rfl

theorem exec_inx (p : Pair) (s : State) : exec (.inx p) s = .next (s.incrementPair p) := by cases p <;> rfl

theorem exec_dcx (p : Pair) (s : State) : exec (.dcx p) s = .next (s.decrementPair p) := by cases p <;> rfl

theorem exec_dad (p : Pair) (s : State) : exec (.dad p) s = .next (s.addToHl p) := by cases p <;> rfl

theorem exec_daa (s : State) : exec .daa s = .next s.decimalAdjust := rfl

/-! The flag computations in the words of 10_state.md R16: Z, S and P of the 8-bit result beside CY and AC. -/

/-- `zsp` of an unmasked result, with CY and AC given, leaves the flags of its low byte (40_condition_codes.md R86). -/
theorem Flags.zsp_with_carries (f : Flags) {n : Nat} {v : Byte} (hv : BitVec.ofNat 8 n = v) (cy ac : Bool) :
    { f.zsp n with cy := cy, ac := ac } = resultFlags v cy ac := by
  subst hv
  rw [Flags.zsp_eq]
  rfl

@[simp] theorem toNat_carryByte (b : Bool) : (carryByte b).toNat = b.toNat := by cases b <;> rfl

theorem ofNat_add_carry (a x : Byte) (cin : Bool) :
    BitVec.ofNat 8 (a.toNat + x.toNat + cin.toNat) = a + x + carryByte cin := by
  apply BitVec.eq_of_toNat_eq
  simp only [BitVec.toNat_ofNat, BitVec.toNat_add, toNat_carryByte]
  omega

/-- The unmasked difference of R87 is taken modulo 65,536, of which 256 is a divisor. -/
theorem ofNat_sub_borrow (a x : Byte) (bin : Bool) :
    BitVec.ofNat 8 (65536 + a.toNat - (x.toNat + bin.toNat)) = a - x - carryByte bin := by
  have hbin := bin.toNat_le
  apply BitVec.eq_of_toNat_eq
  simp only [BitVec.toNat_ofNat, BitVec.toNat_sub, toNat_carryByte]
  omega

theorem add8_eq_resultFlags (a x : Byte) (cin : Bool) (f : Flags) :
    add8 a x cin f = (a + x + carryByte cin, resultFlags (a + x + carryByte cin)
      (decide (a.toNat + x.toNat + cin.toNat > 0xFF))
      (decide (a.toNat % 16 + x.toNat % 16 + cin.toNat > 0xF))) := by
  rw [add8_eq, Flags.zsp_with_carries f (ofNat_add_carry a x cin), ofNat_add_carry]

theorem sub8_eq_differenceFlags (a x : Byte) (bin : Bool) (f : Flags) :
    sub8 a x bin f = (a - x - carryByte bin, differenceFlags a x bin) := by
  rw [sub8_eq, Flags.zsp_with_carries f (ofNat_sub_borrow a x bin), ofNat_sub_borrow, differenceFlags]

theorem inc8_eq_resultFlags (v : Byte) (f : Flags) :
    inc8 v f = (v + 1, resultFlags (v + 1) f.cy (decide (v.toNat % 16 = 15))) := by
  have hv : BitVec.ofNat 8 (v.toNat + 1) = v + 1 := by bv_omega
  rw [inc8_eq, ← Flags.zsp_with_carries f hv]
  rfl

theorem dec8_eq_resultFlags (v : Byte) (f : Flags) :
    dec8 v f = (v - 1, resultFlags (v - 1) f.cy (decide (v.toNat % 16 ≠ 0))) := by
  have hv : BitVec.ofNat 8 (v.toNat + 255) = v - 1 := by bv_omega
  rw [dec8_eq, ← Flags.zsp_with_carries f hv]
  rfl

/-! The two corrections that `daa8` decides are those of R159. -/

theorem daaHigh_eq (a : Byte) (f : Flags) : daaHigh a f = (decimalCorrection a f).1 := by
  simp [daaHigh, decimalCorrection, highNibble, lowNibble, Bool.decide_or, Bool.or_assoc]

theorem daaLow_eq (a : Byte) (f : Flags) : daaLow a f = decide (f.ac = true ∨ a.toNat % 16 > 9) := by
  simp [daaLow, lowNibble, Bool.decide_or]

theorem daa8_eq_resultFlags (a : Byte) (f : Flags) :
    daa8 a f = (a + BitVec.ofNat 8 (decimalCorrection a f).2,
      resultFlags (a + BitVec.ofNat 8 (decimalCorrection a f).2) (f.cy || (decimalCorrection a f).1)
        (decide (a.toNat % 16 + (decimalCorrection a f).2 % 16 > 0xF))) := by
  have hcorr : (if daaLow a f then 0x06 else 0) + (if daaHigh a f then 0x60 else 0) = (decimalCorrection a f).2 := by
    rw [daaLow_eq, daaHigh_eq]
    rfl
  have hv : BitVec.ofNat 8 (a.toNat + (decimalCorrection a f).2) = a + BitVec.ofNat 8 (decimalCorrection a f).2 := by
    rw [BitVec.ofNat_add, BitVec.ofNat_toNat, BitVec.setWidth_eq]
  rw [daa8_eq a f hcorr, Flags.zsp_with_carries f hv, hv, daaHigh_eq]

/-! The statements about single instructions. -/

/-- An accumulator operation that computes `add8` with a carry leaves `afterAdd`. -/
theorem State.accumulate_of_add8 {s : State} {op : AluOp} {x : Byte} {cin : Bool}
    (hop : aluResult op s.regs.a x s.flags = add8 s.regs.a x cin s.flags) (n : Word) :
    s.accumulate op x n = afterAdd s x cin n := by
  rw [State.accumulate_eq, hop, add8_eq_resultFlags]
  rfl

/-- An accumulator operation that computes `sub8` with a borrow leaves `afterSub`. -/
theorem State.accumulate_of_sub8 {s : State} {op : AluOp} {x : Byte} {bin : Bool}
    (hop : aluResult op s.regs.a x s.flags = sub8 s.regs.a x bin s.flags) (n : Word) :
    s.accumulate op x n = afterSub s x bin n := by
  rw [State.accumulate_eq, hop, sub8_eq_differenceFlags]
  rfl

theorem exec_adi (d8 : Byte) (s : State) : exec (.adi d8) s = .next (afterAdd s d8 false 2) :=
  (exec_aluImm .add d8 s).trans (congrArg _ (State.accumulate_of_add8 rfl 2))

/-- Settles O32: ADD and ADI compute `add8` without a carry, ADC and ACI with CY. -/
theorem additionToA : Obligations.AdditionToA := by
  refine fun s x d8 => ⟨encode_alu .add x, ?_, encode_alu .adc x, ?_, rfl, exec_adi d8 s, rfl, ?_⟩
  · rw [exec_alu, State.accumulate_of_add8 rfl]
  · rw [exec_alu, State.accumulate_of_add8 rfl]
  · exact (exec_aluImm .adc d8 s).trans (congrArg _ (State.accumulate_of_add8 rfl 2))

/-- Settles O33: SUB and SUI compute `sub8` without a borrow, SBB and SBI with CY. -/
theorem subtractionFromA : Obligations.SubtractionFromA := by
  refine fun s x d8 => ⟨encode_alu .sub x, ?_, encode_alu .sbb x, ?_, rfl, ?_, rfl, ?_⟩
  · rw [exec_alu, State.accumulate_of_sub8 rfl]
  · rw [exec_alu, State.accumulate_of_sub8 rfl]
  · exact (exec_aluImm .sub d8 s).trans (congrArg _ (State.accumulate_of_sub8 rfl 2))
  · exact (exec_aluImm .sbb d8 s).trans (congrArg _ (State.accumulate_of_sub8 rfl 2))

/-- INR of a register or M: Z, S, P and AC from the sum, CY kept (R152, R153). -/
theorem exec_inr_eq (d : Src) (s : State) : exec (.inr d) s = .next { s.setDest d (s.source d + 1) with
    flags := resultFlags (s.source d + 1) s.flags.cy (decide ((s.source d).toNat % 16 = 15))
    pc := s.pc + 1 } := by
  rw [exec_inr, State.increment_eq, inc8_eq_resultFlags]

/-- DCR of a register or M: Z, S, P and AC from the difference, CY kept (R154, R155). -/
theorem exec_dcr_eq (d : Src) (s : State) : exec (.dcr d) s = .next { s.setDest d (s.source d - 1) with
    flags := resultFlags (s.source d - 1) s.flags.cy (decide ((s.source d).toNat % 16 ≠ 0))
    pc := s.pc + 1 } := by
  rw [exec_dcr, State.decrement_eq, dec8_eq_resultFlags]

/-- Settles O34: the destination is a register or M. -/
theorem incrementAndDecrement : Obligations.IncrementAndDecrement := fun s r =>
  ⟨encode_inr (.reg r), exec_inr_eq (.reg r) s, rfl, exec_inr_eq .mem s,
    encode_dcr (.reg r), exec_dcr_eq (.reg r) s, rfl, exec_dcr_eq .mem s⟩

/-- Settles O35: INX and DCX write the pair, DAD takes HL and CY from the 16-bit sum. -/
theorem pairArithmetic : Obligations.PairArithmetic := by
  refine fun s p => ⟨encode_inx p, ?_, encode_dcx p, ?_, encode_dad p, ?_⟩
  · rw [exec_inx, State.incrementPair_eq]
  · rw [exec_dcx, State.decrementPair_eq]
  · have hsum : BitVec.ofNat 16 (s.hl.toNat + (s.pair p).toNat) = s.hl + s.pair p := by bv_omega
    rw [exec_dad, State.addToHl_eq, add16_eq, hsum]

/-- Settles O36, from the value and the flags of `daa8`. -/
theorem decimalAdjust : Obligations.DecimalAdjust := by
  refine fun s => ⟨rfl, ?_⟩
  rw [exec_daa, State.decimalAdjust_eq, daa8_eq_resultFlags]

/-! Decimal addition ("29 + 49 = 78 in decimal", R159), by the sum of the tens and the sum of the units. -/

/-- A number below 100 as packed decimal: its tens in the high nibble, its units in the low one. -/
def packedDecimal (n : Nat) : Nat := 16 * (n / 10) + n % 10

theorem packedDecimal_lt {n : Nat} (h : n < 100) : packedDecimal n < 256 := by
  unfold packedDecimal
  omega

theorem packedDecimal_mod (n : Nat) : packedDecimal n % 16 = n % 10 := by
  unfold packedDecimal
  omega

theorem packedDecimal_add (x y : Nat) :
    packedDecimal x + packedDecimal y = 16 * (x / 10 + y / 10) + (x % 10 + y % 10) := by
  unfold packedDecimal
  omega

/-- The key to DAA: from a binary sum of nibbles and the flags of that addition, it applies the low correction exactly
when the units carry in decimal, and the high one exactly when the decimal sum has hundreds. -/
theorem decimalCorrection_of_sums {tens units : Nat} (ht : tens ≤ 18) (hu : units ≤ 18) {a : Byte} {f : Flags}
    (ha : a = BitVec.ofNat 8 (16 * tens + units)) (hcy : f.cy = decide (16 * tens + units > 0xFF))
    (hac : f.ac = decide (units > 0xF)) :
    decimalCorrection a f =
      (decide (10 * tens + units ≥ 100), 0x06 * (units / 10) + 0x60 * ((10 * tens + units) / 100)) := by
  replace ha : a.toNat = (16 * tens + units) % 256 := by rw [ha, BitVec.toNat_ofNat]
  have hlow : f.ac = true ∨ a.toNat % 16 > 9 ↔ units ≥ 10 := by
    rw [hac, decide_eq_true_iff]
    omega
  have hhigh : f.cy = true ∨ a.toNat / 16 > 9 ∨ (a.toNat / 16 ≥ 9 ∧ a.toNat % 16 > 9) ↔
      10 * tens + units ≥ 100 := by
    rw [hcy, decide_eq_true_iff]
    omega
  have hcorrLow : (if units ≥ 10 then 0x06 else 0) = 0x06 * (units / 10) := by split <;> omega
  have hcorrHigh : (if 10 * tens + units ≥ 100 then 0x60 else 0) = 0x60 * ((10 * tens + units) / 100) := by
    split <;> omega
  simp only [decimalCorrection, hlow, hhigh, decide_eq_true_iff, hcorrLow, hcorrHigh]

/-- A decimal carry out of the units is worth 10 + 6 there and 16 as a ten, one out of the tens 160 + 0x60, which is
256: the corrected binary sum is the packed decimal of the last two digits of the decimal sum. -/
theorem corrected_sum_eq_packedDecimal (tens units : Nat) :
    BitVec.ofNat 8 (16 * tens + units + (0x06 * (units / 10) + 0x60 * ((10 * tens + units) / 100))) =
      BitVec.ofNat 8 (packedDecimal ((10 * tens + units) % 100)) := by
  have hunits : (10 * tens + units) % 100 % 10 = units % 10 := by omega
  have htens : 10 * ((10 * tens + units) / 100) + (10 * tens + units) % 100 / 10 = tens + units / 10 := by omega
  apply BitVec.eq_of_toNat_eq
  rw [BitVec.toNat_ofNat, BitVec.toNat_ofNat]
  unfold packedDecimal
  omega

/-- DAA after a binary sum of nibbles leaves the last two digits of the decimal sum, and its hundreds in CY. -/
theorem exec_daa_of_sums {tens units : Nat} (htens : tens ≤ 18) (hunits : units ≤ 18) {t u : State}
    (ha : t.regs.a = BitVec.ofNat 8 (16 * tens + units)) (hcy : t.flags.cy = decide (16 * tens + units > 0xFF))
    (hac : t.flags.ac = decide (units > 0xF)) (hu : exec .daa t = .next u) :
    u.regs.a = BitVec.ofNat 8 (packedDecimal ((10 * tens + units) % 100)) ∧
      u.flags.cy = decide (10 * tens + units ≥ 100) := by
  have hcorr := decimalCorrection_of_sums htens hunits ha hcy hac
  rw [(decimalAdjust t).2, hcorr, ha, hcy, ← BitVec.ofNat_add, corrected_sum_eq_packedDecimal] at hu
  cases hu
  have hcarry : 16 * tens + units > 0xFF ∨ 10 * tens + units ≥ 100 ↔ 10 * tens + units ≥ 100 := by omega
  exact ⟨rfl, (Bool.decide_or _ _).symm.trans (decide_eq_decide.mpr hcarry)⟩

/-- ADI of one packed number to another leaves the binary sum, its carry, and the carry of its units. -/
theorem exec_adi_packedDecimal {x y : Nat} (hx : x < 100) (hy : y < 100) {s t : State}
    (ha : s.regs.a = BitVec.ofNat 8 (packedDecimal x))
    (ht : exec (.adi (BitVec.ofNat 8 (packedDecimal y))) s = .next t) :
    t.regs.a = BitVec.ofNat 8 (packedDecimal x + packedDecimal y) ∧
    t.flags.cy = decide (packedDecimal x + packedDecimal y > 0xFF) ∧
    t.flags.ac = decide (x % 10 + y % 10 > 0xF) := by
  rw [exec_adi] at ht
  cases ht
  have hxlt := packedDecimal_lt hx
  have hylt := packedDecimal_lt hy
  refine ⟨?_, ?_, ?_⟩
  · simp [afterAdd, ha, carryByte, BitVec.ofNat_add]
  · simp [afterAdd, resultFlags, ha, Nat.mod_eq_of_lt hxlt, Nat.mod_eq_of_lt hylt]
  · simp [afterAdd, resultFlags, ha, Nat.mod_eq_of_lt hxlt, Nat.mod_eq_of_lt hylt, packedDecimal_mod]

/-- Settles O37: ADI leaves the binary sum of the tens and units, and DAA corrects it to the decimal sum. -/
theorem daaMakesDecimalAddition : Obligations.DaaMakesDecimalAddition := by
  intro s t u x y hx hy hsa ht hu
  obtain ⟨ha, hcy, hac⟩ := exec_adi_packedDecimal hx hy hsa ht
  rw [packedDecimal_add] at ha hcy
  have hsum : 10 * (x / 10 + y / 10) + (x % 10 + y % 10) = x + y := by omega
  have hdaa := exec_daa_of_sums (by omega) (by omega) ha hcy hac hu
  rwa [hsum, packedDecimal, Nat.mod_mod_of_dvd _ (by decide)] at hdaa

end Sys2Proof.Machine

/-! PROOFS. Logical operations (44_logical.md): the bitwise operations and the compares, complement and carry, and the
rotates with their periods. -/

namespace Sys2Proof.Machine

open Claims

/-! Bitwise operations and compares (R170 to R181). -/

theorem logicFlags_eq_resultFlags (v : Byte) (ac : Bool) (f : Flags) : logicFlags v ac f = resultFlags v false ac :=
  Flags.zsp_with_carries f ((BitVec.ofNat_toNat 8 v).trans (BitVec.setWidth_eq v)) false ac

/-- An accumulator operation that computes a byte and its `logic_flags` leaves `afterLogic`. -/
theorem State.accumulate_of_logic {s : State} {op : AluOp} {x v : Byte} {ac : Bool}
    (hop : aluResult op s.regs.a x s.flags = (v, logicFlags v ac s.flags)) (n : Word) :
    s.accumulate op x n = afterLogic s v ac n := by
  rw [State.accumulate_eq, hop, logicFlags_eq_resultFlags]
  rfl

theorem State.accumulate_cmp (s : State) (x : Byte) (n : Word) : s.accumulate .cmp x n = afterCompare s x n := by
  have hop : aluResult .cmp s.regs.a x s.flags = (s.regs.a, differenceFlags s.regs.a x false) :=
    congrArg (fun r => (s.regs.a, r.2)) (sub8_eq_differenceFlags s.regs.a x false s.flags)
  rw [State.accumulate_eq, hop]
  rfl

/-- Settles O39: each operation computes its byte and the `logic_flags` of it. -/
theorem bitwiseOnA : Obligations.BitwiseOnA := by
  refine fun s x d8 => ⟨encode_alu .ana x, ?_, rfl, ?_, encode_alu .xra x, ?_, rfl, ?_,
    encode_alu .ora x, ?_, rfl, ?_⟩
  · rw [exec_alu, State.accumulate_of_logic rfl]
  · exact (exec_aluImm .ana d8 s).trans (congrArg _ (State.accumulate_of_logic rfl 2))
  · rw [exec_alu, State.accumulate_of_logic rfl]
  · exact (exec_aluImm .xra d8 s).trans (congrArg _ (State.accumulate_of_logic rfl 2))
  · rw [exec_alu, State.accumulate_of_logic rfl]
  · exact (exec_aluImm .ora d8 s).trans (congrArg _ (State.accumulate_of_logic rfl 2))

/-- Settles O40: the compare keeps A and takes the flags of `sub8` without a borrow. -/
theorem compareWithA : Obligations.CompareWithA := by
  refine fun s x d8 => ⟨encode_alu .cmp x, ?_, rfl, ?_⟩
  · rw [exec_alu, State.accumulate_cmp]
  · exact (exec_aluImm .cmp d8 s).trans (congrArg _ (s.accumulate_cmp d8 2))

/-! Complement and carry (R186 to R188). -/

theorem exec_cmc (s : State) : exec .cmc s = .next ((s.setCarry (!s.flags.cy)).advance 1) := rfl

theorem exec_stc (s : State) : exec .stc s = .next ((s.setCarry true).advance 1) := rfl

/-- Settles O43: complementing a byte takes it from 255. -/
theorem complementAndCarry : Obligations.ComplementAndCarry := by
  refine fun s => ⟨rfl, ?_, exec_cmc s, exec_stc s⟩
  have hnot : 255 - s.regs.a = ~~~s.regs.a := BitVec.allOnes_sub_eq_not s.regs.a
  rw [exec_cma, hnot]
  rfl

/-! Rotates (R182 to R185): a byte shifted by one position, with a bit taken in at the end that became free. -/

/-- The new A of RLC and RAL: `b` enters at bit 0. -/
def shiftedLeft (v : Byte) (b : Bool) : Byte := v <<< 1 ||| bit0 b

/-- The new A of RRC and RAR: `b` enters at bit 7. -/
def shiftedRight (v : Byte) (b : Bool) : Byte := v >>> 1 ||| bit7 b

theorem exec_rlc (s : State) :
    exec .rlc s = .next (s.rotateTo (shiftedLeft s.regs.a (s.regs.a.getLsbD 7)) (s.regs.a.getLsbD 7)) := rfl

theorem exec_rrc (s : State) :
    exec .rrc s = .next (s.rotateTo (shiftedRight s.regs.a (s.regs.a.getLsbD 0)) (s.regs.a.getLsbD 0)) := rfl

theorem exec_ral (s : State) :
    exec .ral s = .next (s.rotateTo (shiftedLeft s.regs.a s.flags.cy) (s.regs.a.getLsbD 7)) := rfl

theorem exec_rar (s : State) :
    exec .rar s = .next (s.rotateTo (shiftedRight s.regs.a s.flags.cy) (s.regs.a.getLsbD 0)) := rfl

theorem getLsbD_bit0_succ (b : Bool) (i : Nat) : (bit0 b).getLsbD (i + 1) = false := by
  cases b
  · exact BitVec.getLsbD_zero
  · simp [bit0]

theorem getLsbD_bit7_of_lt (b : Bool) {i : Nat} (h : i < 7) : (bit7 b).getLsbD i = false := by
  cases b
  · exact BitVec.getLsbD_zero
  · interval_cases i <;> rfl

theorem getLsbD_shiftedLeft_zero (v : Byte) (b : Bool) : (shiftedLeft v b).getLsbD 0 = b := by
  cases b <;> simp [shiftedLeft, bit0]

theorem getLsbD_shiftedLeft_succ (v : Byte) (b : Bool) {i : Nat} (h : i < 7) :
    (shiftedLeft v b).getLsbD (i + 1) = v.getLsbD i := by
  rw [shiftedLeft, BitVec.getLsbD_or, getLsbD_bit0_succ, Bool.or_false, BitVec.getLsbD_shiftLeft]
  simp [show i + 1 < 8 by omega]

theorem getLsbD_shiftedRight_seven (v : Byte) (b : Bool) : (shiftedRight v b).getLsbD 7 = b := by
  cases b <;> simp [shiftedRight, bit7]

theorem getLsbD_shiftedRight_of_lt (v : Byte) (b : Bool) {i : Nat} (h : i < 7) :
    (shiftedRight v b).getLsbD i = v.getLsbD (i + 1) := by
  simp [shiftedRight, getLsbD_bit7_of_lt, h, Nat.add_comm]

/-- Settles O41: the bytes are the shifted ones, whose bits are known. -/
theorem rotatesMoveOneBit : Obligations.RotatesMoveOneBit := fun s =>
  ⟨_, _, _, _, rfl, exec_rlc s, exec_rrc s, exec_ral s, exec_rar s,
    getLsbD_shiftedLeft_zero _ _, getLsbD_shiftedLeft_zero _ _,
    getLsbD_shiftedRight_seven _ _, getLsbD_shiftedRight_seven _ _,
    fun _ hi => ⟨getLsbD_shiftedLeft_succ _ _ hi, getLsbD_shiftedLeft_succ _ _ hi,
      getLsbD_shiftedRight_of_lt _ _ hi, getLsbD_shiftedRight_of_lt _ _ hi⟩⟩

/-! The periods. A rotate turns a ring of bits by one place: the eight bits of A, or these and CY. -/

/-- The ring of RLC and RRC: bit `j` of A at place `j`. -/
def ringOfA (s : State) (j : Fin 8) : Bool := s.regs.a.getLsbD j

/-- The ring of RAL and RAR: bit `j` of A at place `j`, CY at place 8. -/
def ringOfCarryA (s : State) : Fin 9 → Bool := Fin.snoc (ringOfA s) s.flags.cy

theorem ringOfCarryA_castSucc (s : State) (j : Fin 8) : ringOfCarryA s j.castSucc = ringOfA s j := Fin.snoc_castSucc ..

theorem ringOfCarryA_last (s : State) : ringOfCarryA s (Fin.last 8) = s.flags.cy := Fin.snoc_last ..

theorem a_eq_of_ringOfA {s t : State} (h : ringOfA t = ringOfA s) : t.regs.a = s.regs.a :=
  BitVec.eq_of_getLsbD_eq fun i hi => congrFun h ⟨i, hi⟩

/-- A ring is turned by one place when the last place goes to the first and every other to the next. -/
theorem ring_turned {n : Nat} {r r' : Fin (n + 1) → Bool} (hlast : r' 0 = r (Fin.last n))
    (hnext : ∀ i : Fin n, r' i.succ = r i.castSucc) (j : Fin (n + 1)) : r' (j + 1) = r j := by
  cases j using Fin.lastCases with
  | last => rw [Fin.last_add_one, hlast]
  | cast i => rw [Fin.coeSucc_eq_succ, hnext]

/-- Where each step takes what stands at place `j` to place `j + c`, a ring of `n` places reads as before after `n`
steps: `c` added `n` times is 0. -/
theorem ring_full_turn {α β : Type} {n : Nat} [NeZero n] {ring : α → Fin n → β} {f : α → α} {c : Fin n}
    (hturn : ∀ x j, ring (f x) (j + c) = ring x j) (x : α) : ring (f^[n] x) = ring x := by
  have hplaces (k : Nat) (j : Fin n) : ring (f^[k] x) (j + k • c) = ring x j := by
    induction k with
    | zero => simp
    | succ k ih => rw [Function.iterate_succ_apply', succ_nsmul, ← add_assoc, hturn, ih]
  have hfull : n • c = 0 := by simpa using card_nsmul_eq_zero (x := c)
  funext j
  simpa [hfull] using hplaces n j

theorem repeated_eq_iterate {i : Instr} {f : State → State} (hexec : ∀ s, exec i s = .next (f s)) (n : Nat)
    (s : State) : repeated i n s = some (f^[n] s) := by
  induction n generalizing s with
  | zero => rfl
  | succ n ih => rw [repeated_succ (hexec s), ih, Function.iterate_succ_apply]

/-- A rotate whose byte and whose bit are read from the state. -/
def rotation (v : State → Byte) (b : State → Bool) (s : State) : State := s.rotateTo (v s) (b s)

section Rotation

variable {v : State → Byte} {b : State → Bool} {i : Instr}

/-- Rotates write A, CY and PC only. -/
theorem exists_iterate_rotation (n : Nat) (s : State) : ∃ a cy pc, (rotation v b)^[n] s =
    { s with regs := { s.regs with a := a }, flags := { s.flags with cy := cy }, pc := pc } := by
  induction n with
  | zero => exact ⟨_, _, _, rfl⟩
  | succ n ih =>
    obtain ⟨a, cy, pc, h⟩ := ih
    refine ⟨v ((rotation v b)^[n] s), b ((rotation v b)^[n] s), pc + 1, ?_⟩
    rw [Function.iterate_succ_apply', h]
    rfl

theorem regs_repeated_eight (hexec : ∀ s, exec i s = .next (rotation v b s)) {c : Fin 8}
    (hturn : ∀ s j, ringOfA (rotation v b s) (j + c) = ringOfA s j) (s : State) :
    ∃ t, repeated i 8 s = some t ∧ t.regs = s.regs := by
  refine ⟨_, repeated_eq_iterate hexec 8 s, ?_⟩
  have ha := a_eq_of_ringOfA (ring_full_turn hturn s)
  obtain ⟨a, cy, pc, ht⟩ := exists_iterate_rotation (v := v) (b := b) 8 s
  rw [ht] at ha ⊢
  exact congrArg (fun a => { s.regs with a := a }) ha

theorem regs_flags_repeated_nine (hexec : ∀ s, exec i s = .next (rotation v b s)) {c : Fin 9}
    (hturn : ∀ s j, ringOfCarryA (rotation v b s) (j + c) = ringOfCarryA s j) (s : State) :
    ∃ t, repeated i 9 s = some t ∧ t.regs = s.regs ∧ t.flags = s.flags := by
  refine ⟨_, repeated_eq_iterate hexec 9 s, ?_⟩
  obtain ⟨hring, hcy⟩ := Fin.snoc_inj.mp (ring_full_turn hturn s)
  have ha := a_eq_of_ringOfA hring
  obtain ⟨a, cy, pc, ht⟩ := exists_iterate_rotation (v := v) (b := b) 9 s
  rw [ht] at ha hcy ⊢
  exact ⟨congrArg (fun a => { s.regs with a := a }) ha, congrArg (fun cy => { s.flags with cy := cy }) hcy⟩

end Rotation

/-- A turn the other way, said of the place each bit comes from. -/
theorem ring_turned_back {α β : Type} {n : Nat} {ring : α → Fin (n + 1) → β} {f : α → α}
    (h : ∀ x j, ring x (j + 1) = ring (f x) j) (x : α) (j : Fin (n + 1)) : ring (f x) (j + -1) = ring x j := by
  rw [← h, neg_add_cancel_right]

/-- RAL: CY goes to place 0, bit 7 to CY, every other bit to the next place. -/
theorem ringOfCarryA_left (s : State) (j : Fin 9) :
    ringOfCarryA (s.rotateTo (shiftedLeft s.regs.a s.flags.cy) (s.regs.a.getLsbD 7)) (j + 1) = ringOfCarryA s j := by
  refine ring_turned (getLsbD_shiftedLeft_zero _ _) (fun i => ?_) j
  rw [ringOfCarryA_castSucc]
  cases i using Fin.lastCases with
  | last => exact ringOfCarryA_last _
  | cast i =>
    rw [← Fin.castSucc_succ, ringOfCarryA_castSucc]
    exact getLsbD_shiftedLeft_succ _ _ i.isLt

/-- RAR: what stands at a place comes from the next one, bit 7 from CY, CY from place 0. -/
theorem ringOfCarryA_right (s : State) (j : Fin 9) :
    ringOfCarryA s (j + 1) = ringOfCarryA (s.rotateTo (shiftedRight s.regs.a s.flags.cy) (s.regs.a.getLsbD 0)) j := by
  refine ring_turned (n := 8) (by rw [ringOfCarryA_last]; rfl) (fun i => ?_) j
  rw [ringOfCarryA_castSucc]
  cases i using Fin.lastCases with
  | last => exact (ringOfCarryA_last s).trans (getLsbD_shiftedRight_seven _ _).symm
  | cast i =>
    rw [← Fin.castSucc_succ, ringOfCarryA_castSucc]
    exact (getLsbD_shiftedRight_of_lt _ _ i.isLt).symm

theorem ringOfA_left (s : State) (j : Fin 8) :
    ringOfA (s.rotateTo (shiftedLeft s.regs.a (s.regs.a.getLsbD 7)) (s.regs.a.getLsbD 7)) (j + 1) = ringOfA s j :=
  ring_turned (getLsbD_shiftedLeft_zero _ _) (fun i => getLsbD_shiftedLeft_succ _ _ i.isLt) j

theorem ringOfA_right (s : State) (j : Fin 8) :
    ringOfA s (j + 1) = ringOfA (s.rotateTo (shiftedRight s.regs.a (s.regs.a.getLsbD 0)) (s.regs.a.getLsbD 0)) j :=
  ring_turned (getLsbD_shiftedRight_seven _ _).symm (fun i => (getLsbD_shiftedRight_of_lt _ _ i.isLt).symm) j

/-- Settles O42: each rotate turns its ring by one place, RLC and RAL one way, RRC and RAR the other. -/
theorem rotatesHaveTheirPeriods : Obligations.RotatesHaveTheirPeriods := fun s =>
  ⟨regs_repeated_eight exec_rlc ringOfA_left s, regs_repeated_eight exec_rrc (ring_turned_back ringOfA_right) s,
    regs_flags_repeated_nine exec_ral ringOfCarryA_left s,
    regs_flags_repeated_nine exec_rar (ring_turned_back ringOfCarryA_right) s⟩

end Sys2Proof.Machine

/-! PROOFS. Branches (45_branch.md): the bytes and the effect of the jumps, calls, returns, restarts and PCHL, and the
return that undoes a call. -/

namespace Sys2Proof.Machine

open Claims

/-! The instructions without a condition, each with its undocumented duplicates (R200, R209, R218, R227 to R229). -/

theorem exec_of_mem_jumps {i : Instr} {a16 : Word} (h : i ∈ Instr.jumps a16) (s : State) :
    exec i s = .next (s.jump a16) := by
  simp only [Instr.jumps, List.mem_cons, List.not_mem_nil, or_false] at h
  obtain rfl | rfl := h <;> rfl

theorem exec_of_mem_calls {i : Instr} {a16 : Word} (h : i ∈ Instr.calls a16) (s : State) :
    exec i s = .next (s.callTo a16 3) := by
  simp only [Instr.calls, List.mem_cons, List.not_mem_nil, or_false] at h
  obtain rfl | rfl | rfl | rfl := h <;> rfl

theorem exec_of_mem_rets {i : Instr} (h : i ∈ Instr.rets) (s : State) : exec i s = .next s.popPc := by
  simp only [Instr.rets, List.mem_cons, List.not_mem_nil, or_false] at h
  obtain rfl | rfl := h <;> rfl

theorem exec_jmp (a16 : Word) (s : State) : exec (.jmp a16) s = .next (s.jump a16) :=
  exec_of_mem_jumps List.mem_cons_self s

theorem exec_call (a16 : Word) (s : State) : exec (.call a16) s = .next (s.callTo a16 3) :=
  exec_of_mem_calls List.mem_cons_self s

theorem exec_ret (s : State) : exec .ret s = .next s.popPc := exec_of_mem_rets List.mem_cons_self s

theorem exec_rst (n : Fin 8) (s : State) : exec (.rst n) s = .next (s.callTo (restartAddress n) 1) := by
  fin_cases n <;> rfl

theorem encode_rst : ∀ n, encode (.rst n) = [opcodeBits 0b11 (BitVec.ofFin n) 0b111] := by decide

theorem exec_pchl (s : State) : exec .pchl s = .next (s.jump s.hl) := rfl

theorem State.callTo_eq_pushed (s : State) (target n : Word) : s.callTo target n = pushed s (s.pc + n) target := rfl

/-! The conditional transfers in the words of R201 to R226. -/

/-- Taken or not, a jump writes PC only. -/
theorem State.jumpWhen_eq (s : State) (cond : Cond) (a16 : Word) :
    s.jumpWhen cond a16 = { s with pc := if s.flags.cond cond then a16 else s.pc + 3 } :=
  (apply_ite s.jump _ a16 (s.pc + 3)).symm

theorem exec_jumpIf_eq (cond : Cond) (a16 : Word) (s : State) :
    exec (.jumpIf cond a16) s = .next { s with pc := if s.flags.cond cond then a16 else s.pc + 3 } := by
  rw [exec_jumpIf, State.jumpWhen_eq]

theorem exec_callIf_eq (cond : Cond) (a16 : Word) (s : State) :
    exec (.callIf cond a16) s =
      .next (if s.flags.cond cond then pushed s (s.pc + 3) a16 else { s with pc := s.pc + 3 }) := by
  rw [exec_callIf, State.callWhen, State.callTo_eq_pushed]
  rfl

theorem exec_retIf_eq (cond : Cond) (s : State) :
    exec (.retIf cond) s =
      .next (if s.flags.cond cond then { s with pc := s.top16, sp := s.sp + 2 } else { s with pc := s.pc + 1 }) := by
  rw [exec_retIf, State.returnWhen, State.popPc_eq]
  rfl

/-- Settles O44, a condition at a time. -/
theorem jumps : Obligations.Jumps := fun s a16 =>
  ⟨rfl, exec_jmp a16 s, exec_jumpIf_eq .nz a16 s, exec_jumpIf_eq .z a16 s, exec_jumpIf_eq .nc a16 s,
    exec_jumpIf_eq .c a16 s, exec_jumpIf_eq .po a16 s, exec_jumpIf_eq .pe a16 s, exec_jumpIf_eq .p a16 s,
    exec_jumpIf_eq .m a16 s⟩

/-- Settles O45, a condition at a time. -/
theorem calls : Obligations.Calls := fun s a16 =>
  ⟨rfl, exec_call a16 s, exec_callIf_eq .nz a16 s, exec_callIf_eq .z a16 s, exec_callIf_eq .nc a16 s,
    exec_callIf_eq .c a16 s, exec_callIf_eq .po a16 s, exec_callIf_eq .pe a16 s, exec_callIf_eq .p a16 s,
    exec_callIf_eq .m a16 s⟩

/-- Settles O46, a condition at a time. -/
theorem returns : Obligations.Returns := fun s =>
  ⟨rfl, exec_ret s, exec_retIf_eq .nz s, exec_retIf_eq .z s, exec_retIf_eq .nc s, exec_retIf_eq .c s,
    exec_retIf_eq .po s, exec_retIf_eq .pe s, exec_retIf_eq .p s, exec_retIf_eq .m s⟩

/-- Settles O47: a restart is a call, of one byte, to the address that its number gives. -/
theorem restartAndPchl : Obligations.RestartAndPchl := fun s n => ⟨encode_rst n, exec_rst n s, rfl, exec_pchl s⟩

/-- Settles O48: each duplicate is in the family of the instruction that it duplicates. -/
theorem duplicatesExecuteAsTheirInstruction : Obligations.DuplicatesExecuteAsTheirInstruction := fun s a16 =>
  ⟨rfl, exec_of_mem_jumps (by simp [Instr.jumps]) s, rfl, exec_of_mem_rets (by simp [Instr.rets]) s, rfl,
    exec_of_mem_calls (by simp [Instr.calls]) s, exec_of_mem_calls (by simp [Instr.calls]) s,
    exec_of_mem_calls (by simp [Instr.calls]) s⟩

/-! A return after a call (R209, R218, R227). -/

/-- In a canonical memory a pop after a call, of any length and to any address, changes PC and the two bytes below SP
only: it finds the pushed address on the stack and moves SP back. -/
theorem State.popPc_callTo {s : State} (hs : s.mem.wf = true) (target n : Word) :
    (s.callTo target n).popPc = { s with pc := s.pc + n, mem := (s.push16 (s.pc + n)).mem } := by
  have htop : (s.callTo target n).top16 = s.pc + n := State.top16_push16 hs (s.pc + n)
  have hsp : (s.callTo target n).sp + 2 = s.sp := s.drop16_push16_sp (s.pc + n)
  rw [State.popPc_eq, htop, hsp]
  rfl

/-- A RET right after an instruction that calls returns to the address after it and restores SP, registers and flags. -/
theorem ret_undoes_callTo {i : Instr} {s : State} {target n : Word} (hs : s.mem.wf = true)
    (hexec : exec i s = .next (s.callTo target n)) :
    ∃ t u, exec i s = .next t ∧ exec .ret t = .next u ∧
      u.pc = s.pc + n ∧ u.sp = s.sp ∧ u.regs = s.regs ∧ u.flags = s.flags := by
  refine ⟨_, _, hexec, exec_ret _, ?_⟩
  rw [State.popPc_callTo hs]
  exact ⟨rfl, rfl, rfl, rfl⟩

/-- Settles O49: CALL and RST both push the address after them. -/
theorem retUndoesCall : Obligations.RetUndoesCall := fun s a16 n hs =>
  ⟨ret_undoes_callTo hs (exec_call a16 s), ret_undoes_callTo hs (exec_rst n s)⟩

end Sys2Proof.Machine

/-! PROOFS. Stack, input/output and machine control (46_stack_io_control.md): the pushes and pops of the pairs and of
PSW, the port instructions, and EI, DI, HLT and NOP with the event that follows them. -/

namespace Sys2Proof.Machine

open Claims

/-! PUSH (R240, R241). -/

theorem exec_push (p : StackPair) (s : State) : exec (.push p) s = .next ((s.push16 (s.stackPair p)).advance 1) := by
  cases p <;> rfl

/-- The packed flags are the bits of the flag byte written out (10_state.md R17), for each of the 32 values of the
flags. -/
theorem Flags.toByte_eq_flagByte (f : Flags) : f.toByte = flagByte f := by
  obtain ⟨z, s, p, cy, ac⟩ := f
  revert z s p cy ac
  decide

theorem exec_pushPSW (s : State) :
    exec .pushPSW s = .next ((s.push16 (wordOf s.regs.a (flagByte s.flags))).advance 1) := by
  rw [← Flags.toByte_eq_flagByte]
  rfl

theorem State.push16_wordOf (s : State) (hi lo : Byte) :
    s.push16 (wordOf hi lo) = { s with
      sp := s.sp - 2
      mem := (s.mem.write (s.sp - 1).toNat hi).write (s.sp - 2).toNat lo } := by
  rw [State.push16_eq, highByte_wordOf, lowByte_wordOf]

/-- An instruction of one byte that pushes a word stores the two bytes that the word is made of. -/
theorem exec_eq_of_push {i : Instr} {s : State} {hi lo : Byte}
    (h : exec i s = .next ((s.push16 (wordOf hi lo)).advance 1)) :
    exec i s = .next { s with
      sp := s.sp - 2
      mem := (s.mem.write (s.sp - 1).toNat hi).write (s.sp - 2).toNat lo
      pc := s.pc + 1 } := by
  rw [h, State.push16_wordOf]
  rfl

/-- Settles O50: a pair is the word of its two registers, PSW that of A and the flag byte. -/
theorem pushStoresThePair : Obligations.PushStoresThePair := fun s =>
  ⟨rfl, exec_eq_of_push (exec_push .bc s), exec_eq_of_push (exec_push .de s), exec_eq_of_push (exec_push .hl s),
    exec_eq_of_push (exec_pushPSW s)⟩

/-! POP (R242, R243). -/

theorem exec_pop (p : StackPair) (s : State) :
    exec (.pop p) s = .next ((s.drop16.setStackPair p s.top16).advance 1) := by
  cases p <;> rfl

theorem exec_popPSW (s : State) : exec .popPSW s = .next ((s.drop16.setPsw s.top16).advance 1) := rfl

@[simp] theorem State.setPsw_wordOf (s : State) (hi lo : Byte) :
    s.setPsw (wordOf hi lo) = { s with regs := { s.regs with a := hi }, flags := Flags.ofByte lo } := by
  rw [State.setPsw, highByte_wordOf, lowByte_wordOf]
  rfl

/-- Settles O51: the popped word is that of the bytes at SP + 1 and SP, and each goes to its register. -/
theorem popLoadsThePair : Obligations.PopLoadsThePair := by
  refine fun s => ⟨rfl, (exec_pop .bc s).trans ?_, (exec_pop .de s).trans ?_, (exec_pop .hl s).trans ?_, ?_⟩
  · rw [State.top16, State.setStackPair, State.setBc_wordOf]
    rfl
  · rw [State.top16, State.setStackPair, State.setDe_wordOf]
    rfl
  · rw [State.top16, State.setStackPair, State.setHl_wordOf]
    rfl
  · rw [exec_popPSW, State.top16, State.setPsw_wordOf]
    rfl

/-! IN and OUT (R246, R247; 20_memory.md R49). -/

theorem exec_inPort (p : Byte) (s : State) :
    exec (.inPort p) s = .next (((s.recordInput p (s.portByte p)).setReg .a (s.portByte p)).advance 2) := rfl

theorem exec_outPort (p : Byte) (s : State) : exec (.outPort p) s = .next ((s.recordOutput p s.regs.a).advance 2) := rfl

/-- Where the host has given an input byte, a port read answers that byte. -/
theorem State.portByte_of_inputs_cons {s : State} {v : Byte} {rest : List Byte} (h : s.ports.inputs = v :: rest)
    (p : Byte) : s.portByte p = v := by
  rw [State.portByte, h]

/-- Settles O54: the byte of IN is the one that the port read answers. -/
theorem portInputAndOutput : Obligations.PortInputAndOutput := fun s p =>
  ⟨rfl, ⟨s.portByte p, fun _ _ h => State.portByte_of_inputs_cons h p, exec_inPort p s⟩, rfl, exec_outPort p s⟩

/-! EI, DI, HLT and NOP (R248 to R251). -/

theorem exec_ei (s : State) : exec .ei s = .next ((s.setIe true).advance 1) := rfl

theorem exec_di (s : State) : exec .di s = .next ((s.setIe false).advance 1) := rfl

theorem exec_hlt (s : State) : exec .hlt s = .next ((s.setRun .halted).advance 1) := rfl

theorem exec_of_mem_nops {i : Instr} (h : i ∈ Instr.nops) (s : State) : exec i s = .next (s.advance 1) := by
  simp only [Instr.nops, List.mem_cons, List.not_mem_nil, or_false] at h
  obtain rfl | rfl | rfl | rfl | rfl | rfl | rfl | rfl := h <;> rfl

/-! A request after them (60_exceptions.md R274, R275). -/

theorem State.irq_of_accepted {s : State} (h : s.run = .running ∧ s.pc.toNat < s.build.progEnd ∧ s.ie = true)
    (n : Fin 8) : s.irq n = s.serviceIrq n :=
  if_pos (s.acceptsIrq_iff.mpr h)

theorem State.irq_of_not_accepted {s : State}
    (h : ¬ (s.run = .running ∧ s.pc.toNat < s.build.progEnd ∧ s.ie = true)) (n : Fin 8) : s.irq n = s :=
  if_neg (s.acceptsIrq_iff.not.mpr h)

theorem State.status_of_halted {s : State} (h : s.run = .halted) : s.status = .halted := by
  rw [State.status, h]

/-- The enable of EI takes effect at once (R248). -/
theorem irq_after_ei {s t : State} (h : exec .ei s = .next t) (hrun : t.run = .running)
    (hpc : t.pc.toNat < t.build.progEnd) (n : Fin 8) : t.irq n = t.serviceIrq n :=
  State.irq_of_accepted ⟨hrun, hpc, ie_of_exec h⟩ n

/-- So does the disable of DI (R249). -/
theorem irq_after_di {s t : State} (h : exec .di s = .next t) (n : Fin 8) : t.irq n = t := by
  have hie : t.ie = false := ie_of_exec h
  exact State.irq_of_not_accepted (by simp [hie]) n

/-- After HLT the machine stands still (R250; 41_sequencer.md R111). -/
theorem stopped_after_hlt {s t : State} (h : exec .hlt s = .next t) (n : Fin 8) :
    t.irq n = t ∧ (∀ u : State, step t ≠ .next u) ∧ t.status = .halted := by
  have hhalted : t.run = .halted := run_of_exec h
  have hrun : t.run ≠ .running := ne_running_of_stopped (.inl hhalted)
  exact ⟨State.irq_of_ne_running hrun n, fun _ => step_ne_next_of_ne_running hrun, State.status_of_halted hhalted⟩

/-- Settles O55, from IE and the run state that the instruction leaves for the event that follows it. -/
theorem controlInstructions : Obligations.ControlInstructions := by
  refine fun s => ⟨rfl, exec_ei s, exec_di s, exec_hlt s, fun t n h hrun hpc => ?_, fun t n h => irq_after_di h n,
    fun t n h => stopped_after_hlt h n, rfl, fun i hi => exec_of_mem_nops hi s⟩
  rw [irq_after_ei h hrun hpc]
  exact ⟨rfl, rfl⟩

end Sys2Proof.Machine

/-! PROOFS. Exceptions and interrupts: the invariant, kept by every step and by every event of the host, and the service
of an interrupt request with the return from it (60_exceptions.md). -/

namespace Sys2Proof.Machine

/-! The invariant, piece by piece: the canonical memory (20_memory.md R40, R41), and the fault record, of which a state
that is not Faulted has none (10_state.md R20). -/

/-- An instruction keeps the canonical memory: what it stores goes through the storing operations. -/
theorem Effect.wf_mem {s t : State} {i : Instr} (he : Effect s t i) (hs : s.mem.wf = true) : t.mem.wf = true := by
  cases he with
  | movMR | mviM | sta | stax => exact State.wf_writeByte hs _ _
  | inr d | dcr d => exact State.wf_setDest hs d _
  | shld | xthl => exact State.wf_writeWord hs _ _
  | push | pushPSW | call | callTaken | rst => exact State.wf_push16 hs _
  | lxi | inx | dcx => exact (s.setPair_mem _ _).symm ▸ hs
  | pop => exact (s.drop16.setStackPair_mem _ _).symm ▸ hs
  | _ => exact hs

theorem State.inv_of_not_goneWrong {s : State} (hmem : s.mem.wf = true) (hbuild : s.build.wf = true)
    (hrun : ¬ s.goneWrong) : s.Inv :=
  ⟨hmem, hbuild, fun record h => absurd ⟨record, h⟩ hrun⟩

theorem State.not_goneWrong_of_running {s : State} (h : s.run = .running) : ¬ s.goneWrong := by
  simp [State.goneWrong, h]

/-- No instruction faults (60_exceptions.md R270): it leaves a running machine running or halted. -/
theorem not_goneWrong_of_exec {i : Instr} {s t : State} (hrun : s.run = .running) (h : exec i s = .next t) :
    ¬ t.goneWrong := by
  have htrun := run_of_exec h
  split at htrun
  · simp [State.goneWrong, htrun]
  · exact State.not_goneWrong_of_running (htrun.trans hrun)

/-! A step (41_sequencer.md R100). -/

theorem State.Inv.exec {i : Instr} {s t : State} (hs : s.Inv) (hrun : s.run = .running) (h : exec i s = .next t) :
    t.Inv := by
  have he := effect_of_exec h
  obtain ⟨hbuild, -⟩ := he.control
  exact State.inv_of_not_goneWrong (he.wf_mem hs.memory) (hbuild ▸ hs.progEnd) (not_goneWrong_of_exec hrun h)

/-- The fault of an opcode without a handler is precise (60_exceptions.md R271). -/
theorem State.Inv.raiseFaulted {s : State} (hs : s.Inv) (himp : s.implements s.fetchOpcode = false) :
    (s.raiseFaulted .unimplementedOpcode s.pc s.fetchOpcode).Inv := by
  refine ⟨hs.memory, hs.progEnd, fun record hrecord => ?_⟩
  cases hrecord
  exact ⟨rfl, rfl, himp⟩

/-- Settles O21: at the end of the program nothing changes, a missing handler raises a precise fault, and an instruction
keeps the memory's form and the build. -/
theorem stepKeepsInv : Obligations.StepKeepsInv := by
  intro s t hs h
  obtain ⟨hrun, ⟨-, rfl⟩ | ⟨-, himp, rfl⟩ | ⟨-, -, hexec⟩⟩ := step_cases h
  · exact hs
  · exact hs.raiseFaulted himp
  · exact hs.exec hrun hexec

/-! The other events of the host (41_sequencer.md R110). -/

/-- Interrupt service is a call of length 0 with IE cleared: "the effect of executing `RST n` with PC in place of
`next`" (60_exceptions.md R275). -/
theorem State.serviceIrq_eq_callTo (s : State) (n : Fin 8) :
    s.serviceIrq n = (s.setIe false).callTo (restartAddress n) 0#16 := by
  rw [State.callTo, State.nextPc, State.setIe_pc, BitVec.add_zero, State.serviceIrq]

theorem State.Inv.irq {s : State} (hs : s.Inv) (n : Fin 8) : (s.irq n).Inv := by
  obtain ⟨hacc, hirq⟩ | ⟨-, hirq⟩ := s.irq_cases n
  · obtain ⟨hrun, -⟩ := s.acceptsIrq_iff.mp hacc
    rw [hirq]
    exact State.inv_of_not_goneWrong (State.wf_push16 (s := s.setIe false) hs.memory s.pc) hs.progEnd
      (State.not_goneWrong_of_running hrun)
  · exact hirq.symm ▸ hs

theorem State.Inv.renew {s : State} (hs : s.Inv) : s.renew.Inv :=
  State.inv_of_not_goneWrong Memory.wf_nil hs.progEnd (State.not_goneWrong_of_running s.renew_run)

/-- A load needs nothing of the state before the reset: it sets PROG_END as well as memory (20_memory.md R51). -/
theorem State.inv_loadSetup_renew (s : State) {p : Setup} (hp : p.wf = true) : (s.renew.loadSetup p).Inv := by
  obtain ⟨hfits, hend⟩ := Bool.and_eq_true_iff.mp hp
  exact State.inv_of_not_goneWrong (Memory.wf_load Memory.wf_nil _ _ (of_decide_eq_true hfits)) hend
    (State.not_goneWrong_of_running s.renew_run)

/-- Settles O22, event by event. -/
theorem hostEventsKeepInv : Obligations.HostEventsKeepInv := by
  intro s t e hs h
  cases e with
  | step => exact stepKeepsInv s t hs h
  | irq n => cases h; exact hs.irq n
  | reset load =>
    obtain ⟨-, rfl⟩ | ⟨p, -, hp, rfl⟩ := resetTo_cases h
    · exact hs.renew
    · exact s.inv_loadSetup_renew hp

/-! Interrupt service and the return from a handler (60_exceptions.md R275, R276, R278). -/

/-- Settles O56, from the condition of R274. -/
theorem interruptService : Obligations.InterruptService := fun _ n =>
  ⟨fun h => congrArg _ (State.irq_of_accepted h n), fun h => congrArg _ (State.irq_of_not_accepted h n)⟩

/-- A request that finds IE 0 is ignored (R274), such as a second one at the boundary of an accepted one (R276). -/
theorem State.irq_of_ie_eq_false {s : State} (h : s.ie = false) (n : Fin 8) : s.irq n = s :=
  State.irq_of_not_accepted (by simp [h]) n

/-- In a canonical memory a pop right after interrupt service leaves IE cleared and the two bytes below SP stored, and
the rest of the state as it was before the request. -/
theorem State.popPc_serviceIrq {s : State} (hs : s.mem.wf = true) (n : Fin 8) :
    (s.serviceIrq n).popPc = { s with ie := false, mem := (s.push16 s.pc).mem } := by
  rw [State.serviceIrq_eq_callTo, State.popPc_callTo (s := s.setIe false) hs, State.setIe_pc, BitVec.add_zero]
  rfl

/-- Settles O57: interrupt service clears IE, and RET pops the address that it pushed. -/
theorem interruptReturn : Obligations.InterruptReturn := by
  intro s m n hs hrun hpc hie
  rw [State.irq_of_accepted ⟨hrun, hpc, hie⟩ m]
  refine ⟨State.irq_of_ie_eq_false rfl n, _, exec_ret _, ?_⟩
  rw [State.popPc_serviceIrq hs]
  exact ⟨rfl, rfl, rfl, rfl, rfl⟩

end Sys2Proof.Machine

/-! PROOFS. Reset and the load that may follow it: the bytes, the registers and the parameters that they leave
(70_reset_and_hazards.md R300; 20_memory.md R51). -/

namespace Sys2Proof.Machine

/-- A load that fits in memory and whose PROG_END is a value of the parameter is well-formed (00_scope.md R5; 20_memory.md
R51). -/
theorem setup_wf_of_le {p : Setup} (hfits : p.loadBase.toNat + p.image.length ≤ 65536) (hend : p.programEnd ≤ 65536) :
    p.wf = true :=
  Bool.and_eq_true_iff.mpr ⟨decide_eq_true hfits, decide_eq_true hend⟩

theorem State.renewed_renew (s : State) : Claims.renewed s s.renew := ⟨rfl, rfl, rfl, rfl, rfl, rfl⟩

/-- A load changes nothing that reset sets but memory and PROG_END. -/
theorem State.renewed_loadSetup {s t : State} (h : Claims.renewed s t) (p : Setup) :
    Claims.renewed s (t.loadSetup p) := h

@[simp] theorem State.readByte_renew (s : State) (a : Word) : s.renew.readByte a = 0 := rfl

/-- The image lies at LOAD_BASE, and every byte before it and after it reads 0x00. -/
theorem State.readByte_loadSetup_renew (s : State) {p : Setup} (hfits : p.loadBase.toNat + p.image.length ≤ 65536)
    (a : Word) :
    (s.renew.loadSetup p).readByte a =
      if p.loadBase.toNat ≤ a.toNat then p.image.getD (a.toNat - p.loadBase.toNat) 0 else 0 := by
  have hread : (s.renew.loadSetup p).readByte a =
      if p.loadBase.toNat ≤ a.toNat ∧ a.toNat < p.loadBase.toNat + p.image.length
      then p.image.getD (a.toNat - p.loadBase.toNat) 0 else 0 :=
    Memory.read_load Memory.wf_nil p.image hfits a.toNat
  rw [hread]
  by_cases hlo : p.loadBase.toNat ≤ a.toNat
  · by_cases hhi : a.toNat < p.loadBase.toNat + p.image.length
    · rw [if_pos ⟨hlo, hhi⟩, if_pos hlo]
    · have hpast : p.image.length ≤ a.toNat - p.loadBase.toNat := by omega
      rw [if_neg (fun h => hhi h.2), if_pos hlo, List.getD_eq_default _ _ hpast]
  · rw [if_neg (fun h => hlo h.1), if_neg hlo]

/-- Settles O58: reset is a fresh state for the parameters, and a load that fits adds its image and its PROG_END. -/
theorem resetLeaves : Obligations.ResetLeaves := by
  refine fun s => ⟨⟨s.renew, rfl, s.renewed_renew, s.renew_build, s.readByte_renew⟩, fun p hfits hend => ?_⟩
  exact ⟨s.renew.loadSetup p, resetTo_some (setup_wf_of_le hfits hend) s, State.renewed_loadSetup s.renewed_renew p,
    State.loadSetup_build _ p, s.readByte_loadSetup_renew hfits⟩

/-! State.reset, the state for the default parameters (log entries 1 and 4). -/

theorem State.inv_reset : State.reset.Inv :=
  State.inv_of_not_goneWrong Memory.wf_nil (by decide) (State.not_goneWrong_of_running rfl)

theorem State.renew_reset : State.reset.renew = State.reset := rfl

/-- The default setup has no image, and its PROG_END is the one that State.reset has. -/
theorem State.loadSetup_default_reset : State.reset.loadSetup {} = State.reset := rfl

/-- Settles O20: State.reset is what reset makes of it, and the load of the default setup adds nothing. -/
theorem resetMeetsInv : Obligations.ResetMeetsInv := by
  refine ⟨State.inv_reset, congrArg _ State.renew_reset, ?_⟩
  have hload : State.reset.resetTo (some {}) = .next (State.reset.renew.loadSetup {}) :=
    resetTo_some (setup_wf_of_le (by decide) (by decide)) State.reset
  rwa [State.renew_reset, State.loadSetup_default_reset] at hload

/-! The parameters (00_scope.md R5). -/

theorem programEnd_of_progEnd_eq_none {p : Setup} (h : p.progEnd = none) :
    p.programEnd = p.loadBase.toNat + p.image.length := by
  rw [Setup.programEnd, h, Option.getD_none]

theorem programEnd_of_progEnd_eq_some {p : Setup} {n : Nat} (h : p.progEnd = some n) : p.programEnd = n := by
  rw [Setup.programEnd, h, Option.getD_some]

/-- Settles O59, for a reset without a reload and for one with a load. -/
theorem resetKeepsTheParameters : Obligations.ResetKeepsTheParameters := by
  intro s t load h
  obtain ⟨rfl, rfl⟩ | ⟨p, rfl, -, rfl⟩ := resetTo_cases h
  · exact ⟨rfl, rfl, fun _ => rfl, nofun, nofun, s.renew_ports⟩
  · refine ⟨rfl, rfl, nofun, fun q hq hnone => ?_, fun q n hq hsome => ?_, s.renew_ports⟩
    · cases hq
      exact programEnd_of_progEnd_eq_none hnone
    · cases hq
      exact programEnd_of_progEnd_eq_some hsome

end Sys2Proof.Machine
